-- ==== Sys2Proof/Word.lean ====
section
/-! DEFINITION. The two word widths of the machine (spec 00_scope.md R9: REG_WIDTH 8, ADDR_WIDTH 16). -/

namespace Sys2Proof

/-- An 8-bit value: a register, a byte of memory, a port number, an opcode byte (R9, R20). -/
abbrev Byte := BitVec 8

/-- A 16-bit value: PC, SP, a memory address, a register pair (R9, R22, R25, R27). -/
abbrev Addr := BitVec 16

end Sys2Proof
end

