-- ==== Sys2Proof/Config.lean ====
section
/-! DEFINITION. What an implementation fixes: the parameters of spec 00_scope.md R9 whose values are types or
free, and the one free value of the machine, the byte an input port answers. The VALUES taken for `AC_SUB`,
`CYC` and `BUDGET_POLICY` stand beside the definitions that read them (`Machine.acSub` in Machine/Flags.lean,
`Machine.cyclesOfForm` in Machine/Cycles.lean, `Machine.budgetPolicy` in Machine/RunLoop.lean). -/

namespace Sys2Proof

/-- The number of bytes of memory (R9 `MEM_SIZE`, R39). -/
def Config.memSize : Nat := 65536

/-- The parameter `AC_SUB` (R9, 92_eei_decisions.md D8): how Auxiliary-Carry is formed on a subtraction. -/
inductive AcSub where
  /-- AC is 1 when the low nibble borrows (the spec's default). -/
  | borrow
  /-- AC is the complement of that borrow (what the spec says silicon does). -/
  | carryOfComplement
  deriving DecidableEq, Repr

/-- The parameter `BUDGET_POLICY` (R9, 92_eei_decisions.md D13): when the run loop tests its budget. -/
inductive BudgetPolicy where
  /-- Before each step; an instruction that would exceed the budget is not executed (the spec's default). -/
  | checkBeforeExecute
  /-- After each step; the run stops once the total reaches the budget. -/
  | checkAfterExecute
  deriving DecidableEq, Repr

/-- One port operation as the I/O environment sees it (R77, R265, R266). -/
inductive PortEvent where
  /-- IN read port `port` and the environment answered `answer`. -/
  | input (port answer : Byte)
  /-- OUT handed `value` to port `port`. -/
  | output (port value : Byte)
  deriving DecidableEq, Repr

/-- THE FREE VALUE: the byte the I/O environment answers when `port` is read after the port operations `history`
(newest first). R265: "The core puts no constraint on the answer"; D17 allows "a function from the history of port
operations and the port number to a byte". It has no body, so nothing can be proved about its value
(DESIGN CHOICE, log entry 1). -/
opaque Config.portAnswer (history : List PortEvent) (port : Byte) : Byte

end Sys2Proof
end

