-- ==== Sys2Proof/Syntax/Form.lean ====
section
/-! DEFINITION. The names the spec gives to operand fields (30_encoding.md R93, R94, R97, R98) and the shapes its
instruction rules are written for (R91, and one shape per rule of 41_data_transfer.md to 46_io_control.md).
`Instr.form` in Decode.lean says which shape, with which fields, each instruction of the opcode table has. -/

namespace Sys2Proof

/-- The seven general registers (R20). -/
inductive Reg where
  | b | c | d | e | h | l | a
  deriving DecidableEq, Repr

/-- The pairs named by the field `pp` of LXI, INX, DCX, DAD (R94). -/
inductive Pair where
  | bc | de | hl | sp
  deriving DecidableEq, Repr

/-- The pairs named by the field `pp` of PUSH and POP, the PSW apart (R94, R250 to R253). -/
inductive StackPair where
  | bc | de | hl
  deriving DecidableEq, Repr

/-- The pairs named by the field `x` of LDAX and STAX (R91, R160, R161). -/
inductive IndexPair where
  | bc | de
  deriving DecidableEq, Repr

/-- The eight conditions of the field `ccc` (R97). -/
inductive Cond where
  | nz | z | nc | c | po | pe | p | m
  deriving DecidableEq, Repr

/-- The eight operations of the field `ooo` (R98). -/
inductive AluOp where
  | add | adc | sub | sbb | ana | xra | ora | cmp
  deriving DecidableEq, Repr

/-- The operand of the 3-bit register code: a register, or M, the byte at HL (R93, R170). -/
inductive Operand8 where
  | reg (r : Reg)
  | m
  deriving DecidableEq, Repr

/-- The number of a restart vector, 0 to 7: a type with exactly eight values (R284, D15, U7). -/
abbrev RstVector := Fin 8

/-- The shape of an instruction: the rule of the spec it follows, and the fields of its encoding. -/
inductive Form where
  | movRR (dst src : Reg)            -- R150
  | movRM (dst : Reg)                -- R151
  | movMR (src : Reg)                -- R152
  | mviR (dst : Reg) (imm : Byte)    -- R153
  | mviM (imm : Byte)                -- R154
  | lxi (p : Pair) (imm : Addr)      -- R155
  | lda (addr : Addr)                -- R156
  | sta (addr : Addr)                -- R157
  | lhld (addr : Addr)               -- R158
  | shld (addr : Addr)               -- R159
  | ldax (p : IndexPair)             -- R160
  | stax (p : IndexPair)             -- R161
  | xchg                             -- R162
  | sphl                             -- R163
  | alu (op : AluOp) (src : Operand8)   -- R171 to R181, R200 to R210, the register and memory rules
  | aluImm (op : AluOp) (imm : Byte)    -- R173, R176, R179, R182, R202, R205, R208, R211
  | inr (dst : Operand8)             -- R183, R184
  | dcr (dst : Operand8)             -- R185, R186
  | inx (p : Pair)                   -- R187
  | dcx (p : Pair)                   -- R188
  | dad (p : Pair)                   -- R189
  | rlc                              -- R212
  | rrc                              -- R213
  | ral                              -- R214
  | rar                              -- R215
  | cma                              -- R216
  | stc                              -- R217
  | cmc                              -- R218
  | jmp (target : Addr)              -- R230
  | jcc (cnd : Cond) (target : Addr)   -- R231
  | call (target : Addr)             -- R232
  | ccc (cnd : Cond) (target : Addr)   -- R233
  | ret                              -- R234
  | rcc (cnd : Cond)                   -- R235
  | rst (n : RstVector)              -- R236
  | pchl                             -- R237
  | push (p : StackPair)             -- R250
  | pushPsw                          -- R251
  | pop (p : StackPair)              -- R252
  | popPsw                           -- R253
  | xthl                             -- R254
  | inPort (port : Byte)             -- R267
  | outPort (port : Byte)            -- R268
  | ei                               -- R269
  | di                               -- R270
  | hlt                              -- R271
  | nop                              -- R272
  | illegal (opcode : Byte)          -- R101, R280
  deriving DecidableEq, Repr

end Sys2Proof
end

