-- ==== Sys2Proof/Syntax.lean ====
section
/-! DEFINITION. The instruction syntax: one constructor per mnemonic of spec/opcode_table.json (256 rows, 244 mnemonics:
the 13 rows of the faulting bytes share the mnemonic `no_instruction`, whose constructor carries the byte). A constructor's
arguments are the operand bytes that follow the opcode (30_encoding.md R90, R95, R96). -/

namespace Sys2Proof

/-- An instruction of the machine. The comment at the head of each group names the rule of the spec. -/
inductive Instr where
  -- R150
  | movBB | movBC | movBD | movBE | movBH | movBL | movBA | movCB | movCC | movCD | movCE | movCH | movCL
  | movCA | movDB | movDC | movDD | movDE | movDH | movDL | movDA | movEB | movEC | movED | movEE | movEH
  | movEL | movEA | movHB | movHC | movHD | movHE | movHH | movHL | movHA | movLB | movLC | movLD | movLE
  | movLH | movLL | movLA | movAB | movAC | movAD | movAE | movAH | movAL | movAA
  -- R151
  | movBM | movCM | movDM | movEM | movHM | movLM | movAM
  -- R152
  | movMB | movMC | movMD | movME | movMH | movML | movMA
  -- R153
  | mviB (imm : Byte) | mviC (imm : Byte) | mviD (imm : Byte) | mviE (imm : Byte) | mviH (imm : Byte)
  | mviL (imm : Byte) | mviA (imm : Byte)
  -- R154
  | mviM (imm : Byte)
  -- R155
  | lxiB (imm : Addr) | lxiD (imm : Addr) | lxiH (imm : Addr) | lxiSP (imm : Addr)
  -- R156
  | lda (addr : Addr)
  -- R157
  | sta (addr : Addr)
  -- R158
  | lhld (addr : Addr)
  -- R159
  | shld (addr : Addr)
  -- R160
  | ldaxB | ldaxD
  -- R161
  | staxB | staxD
  -- R162
  | xchg
  -- R163
  | sphl
  -- R171
  | addB | addC | addD | addE | addH | addL | addA
  -- R172
  | addM
  -- R173
  | adi (imm : Byte)
  -- R174
  | adcB | adcC | adcD | adcE | adcH | adcL | adcA
  -- R175
  | adcM
  -- R176
  | aci (imm : Byte)
  -- R177
  | subB | subC | subD | subE | subH | subL | subA
  -- R178
  | subM
  -- R179
  | sui (imm : Byte)
  -- R180
  | sbbB | sbbC | sbbD | sbbE | sbbH | sbbL | sbbA
  -- R181
  | sbbM
  -- R182
  | sbi (imm : Byte)
  -- R183
  | inrB | inrC | inrD | inrE | inrH | inrL | inrA
  -- R184
  | inrM
  -- R185
  | dcrB | dcrC | dcrD | dcrE | dcrH | dcrL | dcrA
  -- R186
  | dcrM
  -- R187
  | inxB | inxD | inxH | inxSP
  -- R188
  | dcxB | dcxD | dcxH | dcxSP
  -- R189
  | dadB | dadD | dadH | dadSP
  -- R200
  | anaB | anaC | anaD | anaE | anaH | anaL | anaA
  -- R201
  | anaM
  -- R202
  | ani (imm : Byte)
  -- R203
  | xraB | xraC | xraD | xraE | xraH | xraL | xraA
  -- R204
  | xraM
  -- R205
  | xri (imm : Byte)
  -- R206
  | oraB | oraC | oraD | oraE | oraH | oraL | oraA
  -- R207
  | oraM
  -- R208
  | ori (imm : Byte)
  -- R209
  | cmpB | cmpC | cmpD | cmpE | cmpH | cmpL | cmpA
  -- R210
  | cmpM
  -- R211
  | cpi (imm : Byte)
  -- R212
  | rlc
  -- R213
  | rrc
  -- R214
  | ral
  -- R215
  | rar
  -- R216
  | cma
  -- R217
  | stc
  -- R218
  | cmc
  -- R230
  | jmp (addr : Addr)
  -- R231
  | jnz (addr : Addr) | jz (addr : Addr) | jnc (addr : Addr) | jc (addr : Addr) | jpo (addr : Addr)
  | jpe (addr : Addr) | jp (addr : Addr) | jm (addr : Addr)
  -- R232
  | call (addr : Addr)
  -- R233
  | cnz (addr : Addr) | cz (addr : Addr) | cnc (addr : Addr) | cc (addr : Addr) | cpo (addr : Addr)
  | cpe (addr : Addr) | cp (addr : Addr) | cm (addr : Addr)
  -- R234
  | ret
  -- R235
  | rnz | rz | rnc | rc | rpo | rpe | rp | rm
  -- R236
  | rst0 | rst1 | rst2 | rst3 | rst4 | rst5 | rst6 | rst7
  -- R237
  | pchl
  -- R250
  | pushB | pushD | pushH
  -- R251
  | pushPsw
  -- R252
  | popB | popD | popH
  -- R253
  | popPsw
  -- R254
  | xthl
  -- R267
  | inP8 (port : Byte)
  -- R268
  | outP8 (port : Byte)
  -- R269
  | ei
  -- R270
  | di
  -- R271
  | hlt
  -- R272
  | nop
  -- R280 and the 13 bytes of R101
  | noInstruction (opcode : Byte)
  deriving DecidableEq, Repr

end Sys2Proof
end

