-- ==== Sys2Proof/WellFormed.lean ====
section
/-! DEFINITION. Which instructions are well formed. Every operand byte is legal (30_encoding.md R102: "every `imm8` and
`imm16` is legal") and the argument types hold exactly the encodable values, so the one check is that the constructor of
the faulting bytes carries one of the 13 bytes of R101. -/

namespace Sys2Proof

/-- The thirteen opcode bytes with no handler (R101): twelve the data sheet leaves undefined, and 0x27. -/
def illegalBytes : List Byte :=
  [0x08, 0x10, 0x18, 0x20, 0x28, 0x30, 0x38, 0xCB, 0xD9, 0xDD, 0xED, 0xFD, 0x27]

/-- Well-formedness of an instruction (R101, R102). -/
def Instr.wf : Instr → Bool
  | .noInstruction opcode => illegalBytes.contains opcode
  | .movBB | .movBC | .movBD | .movBE | .movBH | .movBL | .movBA | .movCB | .movCC | .movCD | .movCE | .movCH
  | .movCL | .movCA | .movDB | .movDC | .movDD | .movDE | .movDH | .movDL | .movDA | .movEB | .movEC | .movED
  | .movEE | .movEH | .movEL | .movEA | .movHB | .movHC | .movHD | .movHE | .movHH | .movHL | .movHA | .movLB
  | .movLC | .movLD | .movLE | .movLH | .movLL | .movLA | .movAB | .movAC | .movAD | .movAE | .movAH | .movAL
  | .movAA | .movBM | .movCM | .movDM | .movEM | .movHM | .movLM | .movAM | .movMB | .movMC | .movMD | .movME
  | .movMH | .movML | .movMA | .mviB _ | .mviC _ | .mviD _ | .mviE _ | .mviH _ | .mviL _ | .mviA _ | .mviM _
  | .lxiB _ | .lxiD _ | .lxiH _ | .lxiSP _ | .lda _ | .sta _ | .lhld _ | .shld _ | .ldaxB | .ldaxD | .staxB
  | .staxD | .xchg | .sphl | .addB | .addC | .addD | .addE | .addH | .addL | .addA | .addM | .adi _ | .adcB
  | .adcC | .adcD | .adcE | .adcH | .adcL | .adcA | .adcM | .aci _ | .subB | .subC | .subD | .subE | .subH
  | .subL | .subA | .subM | .sui _ | .sbbB | .sbbC | .sbbD | .sbbE | .sbbH | .sbbL | .sbbA | .sbbM | .sbi _
  | .inrB | .inrC | .inrD | .inrE | .inrH | .inrL | .inrA | .inrM | .dcrB | .dcrC | .dcrD | .dcrE | .dcrH
  | .dcrL | .dcrA | .dcrM | .inxB | .inxD | .inxH | .inxSP | .dcxB | .dcxD | .dcxH | .dcxSP | .dadB | .dadD
  | .dadH | .dadSP | .anaB | .anaC | .anaD | .anaE | .anaH | .anaL | .anaA | .anaM | .ani _ | .xraB | .xraC
  | .xraD | .xraE | .xraH | .xraL | .xraA | .xraM | .xri _ | .oraB | .oraC | .oraD | .oraE | .oraH | .oraL
  | .oraA | .oraM | .ori _ | .cmpB | .cmpC | .cmpD | .cmpE | .cmpH | .cmpL | .cmpA | .cmpM | .cpi _ | .rlc
  | .rrc | .ral | .rar | .cma | .stc | .cmc | .jmp _ | .jnz _ | .jz _ | .jnc _ | .jc _ | .jpo _ | .jpe _
  | .jp _ | .jm _ | .call _ | .cnz _ | .cz _ | .cnc _ | .cc _ | .cpo _ | .cpe _ | .cp _ | .cm _ | .ret | .rnz
  | .rz | .rnc | .rc | .rpo | .rpe | .rp | .rm | .rst0 | .rst1 | .rst2 | .rst3 | .rst4 | .rst5 | .rst6 | .rst7
  | .pchl | .pushB | .pushD | .pushH | .pushPsw | .popB | .popD | .popH | .popPsw | .xthl | .inP8 _ | .outP8 _
  | .ei | .di | .hlt | .nop => true

end Sys2Proof
end

