-- ==== Sys2Proof/Decode.lean ====
section
/-! DEFINITION. The encoding of spec 30_encoding.md. DECODING is a lookup of the opcode byte in the map of R99, which R92
calls the authority; ENCODING is written from the formats and fields of R91, R93, R94, R97 and R98. That the two agree is
a statement of Certificates/Slice0/Obligations.lean. -/

namespace Sys2Proof

/-! ### The two bytes of a 16-bit value (R63, R96) -/

/-- The low byte of a 16-bit value: the one stored at the lower address (R63). -/
def lowByte (w : Addr) : Byte := w.extractLsb' 0 8

/-- The high byte of a 16-bit value (R63). -/
def highByte (w : Addr) : Byte := w.extractLsb' 8 8

/-- The 16-bit value of a low and a high byte: `hi : lo` (R63, R96). -/
def joinBytes (lo hi : Byte) : Addr := hi ++ lo

/-! ### The shape and the fields of every instruction -/

/-- The shape of an instruction and the values of its fields (the column `fields` of spec/opcode_table.json). -/
def Instr.form : Instr → Form
  | .movBB => .movRR .b .b
  | .movBC => .movRR .b .c
  | .movBD => .movRR .b .d
  | .movBE => .movRR .b .e
  | .movBH => .movRR .b .h
  | .movBL => .movRR .b .l
  | .movBA => .movRR .b .a
  | .movCB => .movRR .c .b
  | .movCC => .movRR .c .c
  | .movCD => .movRR .c .d
  | .movCE => .movRR .c .e
  | .movCH => .movRR .c .h
  | .movCL => .movRR .c .l
  | .movCA => .movRR .c .a
  | .movDB => .movRR .d .b
  | .movDC => .movRR .d .c
  | .movDD => .movRR .d .d
  | .movDE => .movRR .d .e
  | .movDH => .movRR .d .h
  | .movDL => .movRR .d .l
  | .movDA => .movRR .d .a
  | .movEB => .movRR .e .b
  | .movEC => .movRR .e .c
  | .movED => .movRR .e .d
  | .movEE => .movRR .e .e
  | .movEH => .movRR .e .h
  | .movEL => .movRR .e .l
  | .movEA => .movRR .e .a
  | .movHB => .movRR .h .b
  | .movHC => .movRR .h .c
  | .movHD => .movRR .h .d
  | .movHE => .movRR .h .e
  | .movHH => .movRR .h .h
  | .movHL => .movRR .h .l
  | .movHA => .movRR .h .a
  | .movLB => .movRR .l .b
  | .movLC => .movRR .l .c
  | .movLD => .movRR .l .d
  | .movLE => .movRR .l .e
  | .movLH => .movRR .l .h
  | .movLL => .movRR .l .l
  | .movLA => .movRR .l .a
  | .movAB => .movRR .a .b
  | .movAC => .movRR .a .c
  | .movAD => .movRR .a .d
  | .movAE => .movRR .a .e
  | .movAH => .movRR .a .h
  | .movAL => .movRR .a .l
  | .movAA => .movRR .a .a
  | .movBM => .movRM .b
  | .movCM => .movRM .c
  | .movDM => .movRM .d
  | .movEM => .movRM .e
  | .movHM => .movRM .h
  | .movLM => .movRM .l
  | .movAM => .movRM .a
  | .movMB => .movMR .b
  | .movMC => .movMR .c
  | .movMD => .movMR .d
  | .movME => .movMR .e
  | .movMH => .movMR .h
  | .movML => .movMR .l
  | .movMA => .movMR .a
  | .mviB imm => .mviR .b imm
  | .mviC imm => .mviR .c imm
  | .mviD imm => .mviR .d imm
  | .mviE imm => .mviR .e imm
  | .mviH imm => .mviR .h imm
  | .mviL imm => .mviR .l imm
  | .mviA imm => .mviR .a imm
  | .mviM imm => .mviM imm
  | .lxiB imm => .lxi .bc imm
  | .lxiD imm => .lxi .de imm
  | .lxiH imm => .lxi .hl imm
  | .lxiSP imm => .lxi .sp imm
  | .lda addr => .lda addr
  | .sta addr => .sta addr
  | .lhld addr => .lhld addr
  | .shld addr => .shld addr
  | .ldaxB => .ldax .bc
  | .ldaxD => .ldax .de
  | .staxB => .stax .bc
  | .staxD => .stax .de
  | .xchg => .xchg
  | .sphl => .sphl
  | .addB => .alu .add (.reg .b)
  | .addC => .alu .add (.reg .c)
  | .addD => .alu .add (.reg .d)
  | .addE => .alu .add (.reg .e)
  | .addH => .alu .add (.reg .h)
  | .addL => .alu .add (.reg .l)
  | .addA => .alu .add (.reg .a)
  | .addM => .alu .add .m
  | .adi imm => .aluImm .add imm
  | .adcB => .alu .adc (.reg .b)
  | .adcC => .alu .adc (.reg .c)
  | .adcD => .alu .adc (.reg .d)
  | .adcE => .alu .adc (.reg .e)
  | .adcH => .alu .adc (.reg .h)
  | .adcL => .alu .adc (.reg .l)
  | .adcA => .alu .adc (.reg .a)
  | .adcM => .alu .adc .m
  | .aci imm => .aluImm .adc imm
  | .subB => .alu .sub (.reg .b)
  | .subC => .alu .sub (.reg .c)
  | .subD => .alu .sub (.reg .d)
  | .subE => .alu .sub (.reg .e)
  | .subH => .alu .sub (.reg .h)
  | .subL => .alu .sub (.reg .l)
  | .subA => .alu .sub (.reg .a)
  | .subM => .alu .sub .m
  | .sui imm => .aluImm .sub imm
  | .sbbB => .alu .sbb (.reg .b)
  | .sbbC => .alu .sbb (.reg .c)
  | .sbbD => .alu .sbb (.reg .d)
  | .sbbE => .alu .sbb (.reg .e)
  | .sbbH => .alu .sbb (.reg .h)
  | .sbbL => .alu .sbb (.reg .l)
  | .sbbA => .alu .sbb (.reg .a)
  | .sbbM => .alu .sbb .m
  | .sbi imm => .aluImm .sbb imm
  | .inrB => .inr (.reg .b)
  | .inrC => .inr (.reg .c)
  | .inrD => .inr (.reg .d)
  | .inrE => .inr (.reg .e)
  | .inrH => .inr (.reg .h)
  | .inrL => .inr (.reg .l)
  | .inrA => .inr (.reg .a)
  | .inrM => .inr .m
  | .dcrB => .dcr (.reg .b)
  | .dcrC => .dcr (.reg .c)
  | .dcrD => .dcr (.reg .d)
  | .dcrE => .dcr (.reg .e)
  | .dcrH => .dcr (.reg .h)
  | .dcrL => .dcr (.reg .l)
  | .dcrA => .dcr (.reg .a)
  | .dcrM => .dcr .m
  | .inxB => .inx .bc
  | .inxD => .inx .de
  | .inxH => .inx .hl
  | .inxSP => .inx .sp
  | .dcxB => .dcx .bc
  | .dcxD => .dcx .de
  | .dcxH => .dcx .hl
  | .dcxSP => .dcx .sp
  | .dadB => .dad .bc
  | .dadD => .dad .de
  | .dadH => .dad .hl
  | .dadSP => .dad .sp
  | .anaB => .alu .ana (.reg .b)
  | .anaC => .alu .ana (.reg .c)
  | .anaD => .alu .ana (.reg .d)
  | .anaE => .alu .ana (.reg .e)
  | .anaH => .alu .ana (.reg .h)
  | .anaL => .alu .ana (.reg .l)
  | .anaA => .alu .ana (.reg .a)
  | .anaM => .alu .ana .m
  | .ani imm => .aluImm .ana imm
  | .xraB => .alu .xra (.reg .b)
  | .xraC => .alu .xra (.reg .c)
  | .xraD => .alu .xra (.reg .d)
  | .xraE => .alu .xra (.reg .e)
  | .xraH => .alu .xra (.reg .h)
  | .xraL => .alu .xra (.reg .l)
  | .xraA => .alu .xra (.reg .a)
  | .xraM => .alu .xra .m
  | .xri imm => .aluImm .xra imm
  | .oraB => .alu .ora (.reg .b)
  | .oraC => .alu .ora (.reg .c)
  | .oraD => .alu .ora (.reg .d)
  | .oraE => .alu .ora (.reg .e)
  | .oraH => .alu .ora (.reg .h)
  | .oraL => .alu .ora (.reg .l)
  | .oraA => .alu .ora (.reg .a)
  | .oraM => .alu .ora .m
  | .ori imm => .aluImm .ora imm
  | .cmpB => .alu .cmp (.reg .b)
  | .cmpC => .alu .cmp (.reg .c)
  | .cmpD => .alu .cmp (.reg .d)
  | .cmpE => .alu .cmp (.reg .e)
  | .cmpH => .alu .cmp (.reg .h)
  | .cmpL => .alu .cmp (.reg .l)
  | .cmpA => .alu .cmp (.reg .a)
  | .cmpM => .alu .cmp .m
  | .cpi imm => .aluImm .cmp imm
  | .rlc => .rlc
  | .rrc => .rrc
  | .ral => .ral
  | .rar => .rar
  | .cma => .cma
  | .stc => .stc
  | .cmc => .cmc
  | .jmp addr => .jmp addr
  | .jnz addr => .jcc .nz addr
  | .jz addr => .jcc .z addr
  | .jnc addr => .jcc .nc addr
  | .jc addr => .jcc .c addr
  | .jpo addr => .jcc .po addr
  | .jpe addr => .jcc .pe addr
  | .jp addr => .jcc .p addr
  | .jm addr => .jcc .m addr
  | .call addr => .call addr
  | .cnz addr => .ccc .nz addr
  | .cz addr => .ccc .z addr
  | .cnc addr => .ccc .nc addr
  | .cc addr => .ccc .c addr
  | .cpo addr => .ccc .po addr
  | .cpe addr => .ccc .pe addr
  | .cp addr => .ccc .p addr
  | .cm addr => .ccc .m addr
  | .ret => .ret
  | .rnz => .rcc .nz
  | .rz => .rcc .z
  | .rnc => .rcc .nc
  | .rc => .rcc .c
  | .rpo => .rcc .po
  | .rpe => .rcc .pe
  | .rp => .rcc .p
  | .rm => .rcc .m
  | .rst0 => .rst 0
  | .rst1 => .rst 1
  | .rst2 => .rst 2
  | .rst3 => .rst 3
  | .rst4 => .rst 4
  | .rst5 => .rst 5
  | .rst6 => .rst 6
  | .rst7 => .rst 7
  | .pchl => .pchl
  | .pushB => .push .bc
  | .pushD => .push .de
  | .pushH => .push .hl
  | .pushPsw => .pushPsw
  | .popB => .pop .bc
  | .popD => .pop .de
  | .popH => .pop .hl
  | .popPsw => .popPsw
  | .xthl => .xthl
  | .inP8 port => .inPort port
  | .outP8 port => .outPort port
  | .ei => .ei
  | .di => .di
  | .hlt => .hlt
  | .nop => .nop
  | .noInstruction opcode => .illegal opcode

/-! ### The opcode map and the decoder -/

/-- What the map of R99 says of one opcode byte: the instruction it selects, as a function of its operand bytes, or that
it has no handler (R101). -/
inductive OpcodeEntry where
  /-- One byte, no operand. -/
  | len1 (i : Instr)
  /-- Two bytes: the operand is `imm8` (R95). -/
  | len2 (f : Byte → Instr)
  /-- Three bytes: the operand is `imm16`, low byte first (R96). -/
  | len3 (f : Addr → Instr)
  /-- No instruction: the byte faults. -/
  | fault

/-- The length of an instruction by its map entry (R90, R100); "The 13 faulting bytes have no length" (R100). -/
def OpcodeEntry.length : OpcodeEntry → Option Nat
  | .len1 _ => some 1
  | .len2 _ => some 2
  | .len3 _ => some 3
  | .fault => none

/-- Row 0x of the map of R99. -/
def opcodeRow0 : List OpcodeEntry :=
  [.len1 .nop, .len3 .lxiB, .len1 .staxB, .len1 .inxB, .len1 .inrB, .len1 .dcrB, .len2 .mviB, .len1
   .rlc, .fault, .len1 .dadB, .len1 .ldaxB, .len1 .dcxB, .len1 .inrC, .len1 .dcrC, .len2 .mviC,
   .len1 .rrc]

/-- Row 1x of the map of R99. -/
def opcodeRow1 : List OpcodeEntry :=
  [.fault, .len3 .lxiD, .len1 .staxD, .len1 .inxD, .len1 .inrD, .len1 .dcrD, .len2 .mviD, .len1
   .ral, .fault, .len1 .dadD, .len1 .ldaxD, .len1 .dcxD, .len1 .inrE, .len1 .dcrE, .len2 .mviE,
   .len1 .rar]

/-- Row 2x of the map of R99. -/
def opcodeRow2 : List OpcodeEntry :=
  [.fault, .len3 .lxiH, .len3 .shld, .len1 .inxH, .len1 .inrH, .len1 .dcrH, .len2 .mviH, .fault,
   .fault, .len1 .dadH, .len3 .lhld, .len1 .dcxH, .len1 .inrL, .len1 .dcrL, .len2 .mviL, .len1 .cma]

/-- Row 3x of the map of R99. -/
def opcodeRow3 : List OpcodeEntry :=
  [.fault, .len3 .lxiSP, .len3 .sta, .len1 .inxSP, .len1 .inrM, .len1 .dcrM, .len2 .mviM, .len1
   .stc, .fault, .len1 .dadSP, .len3 .lda, .len1 .dcxSP, .len1 .inrA, .len1 .dcrA, .len2 .mviA,
   .len1 .cmc]

/-- Row 4x of the map of R99. -/
def opcodeRow4 : List OpcodeEntry :=
  [.len1 .movBB, .len1 .movBC, .len1 .movBD, .len1 .movBE, .len1 .movBH, .len1 .movBL, .len1 .movBM,
   .len1 .movBA, .len1 .movCB, .len1 .movCC, .len1 .movCD, .len1 .movCE, .len1 .movCH, .len1 .movCL,
   .len1 .movCM, .len1 .movCA]

/-- Row 5x of the map of R99. -/
def opcodeRow5 : List OpcodeEntry :=
  [.len1 .movDB, .len1 .movDC, .len1 .movDD, .len1 .movDE, .len1 .movDH, .len1 .movDL, .len1 .movDM,
   .len1 .movDA, .len1 .movEB, .len1 .movEC, .len1 .movED, .len1 .movEE, .len1 .movEH, .len1 .movEL,
   .len1 .movEM, .len1 .movEA]

/-- Row 6x of the map of R99. -/
def opcodeRow6 : List OpcodeEntry :=
  [.len1 .movHB, .len1 .movHC, .len1 .movHD, .len1 .movHE, .len1 .movHH, .len1 .movHL, .len1 .movHM,
   .len1 .movHA, .len1 .movLB, .len1 .movLC, .len1 .movLD, .len1 .movLE, .len1 .movLH, .len1 .movLL,
   .len1 .movLM, .len1 .movLA]

/-- Row 7x of the map of R99. -/
def opcodeRow7 : List OpcodeEntry :=
  [.len1 .movMB, .len1 .movMC, .len1 .movMD, .len1 .movME, .len1 .movMH, .len1 .movML, .len1 .hlt,
   .len1 .movMA, .len1 .movAB, .len1 .movAC, .len1 .movAD, .len1 .movAE, .len1 .movAH, .len1 .movAL,
   .len1 .movAM, .len1 .movAA]

/-- Row 8x of the map of R99. -/
def opcodeRow8 : List OpcodeEntry :=
  [.len1 .addB, .len1 .addC, .len1 .addD, .len1 .addE, .len1 .addH, .len1 .addL, .len1 .addM, .len1
   .addA, .len1 .adcB, .len1 .adcC, .len1 .adcD, .len1 .adcE, .len1 .adcH, .len1 .adcL, .len1 .adcM,
   .len1 .adcA]

/-- Row 9x of the map of R99. -/
def opcodeRow9 : List OpcodeEntry :=
  [.len1 .subB, .len1 .subC, .len1 .subD, .len1 .subE, .len1 .subH, .len1 .subL, .len1 .subM, .len1
   .subA, .len1 .sbbB, .len1 .sbbC, .len1 .sbbD, .len1 .sbbE, .len1 .sbbH, .len1 .sbbL, .len1 .sbbM,
   .len1 .sbbA]

/-- Row Ax of the map of R99. -/
def opcodeRowA : List OpcodeEntry :=
  [.len1 .anaB, .len1 .anaC, .len1 .anaD, .len1 .anaE, .len1 .anaH, .len1 .anaL, .len1 .anaM, .len1
   .anaA, .len1 .xraB, .len1 .xraC, .len1 .xraD, .len1 .xraE, .len1 .xraH, .len1 .xraL, .len1 .xraM,
   .len1 .xraA]

/-- Row Bx of the map of R99. -/
def opcodeRowB : List OpcodeEntry :=
  [.len1 .oraB, .len1 .oraC, .len1 .oraD, .len1 .oraE, .len1 .oraH, .len1 .oraL, .len1 .oraM, .len1
   .oraA, .len1 .cmpB, .len1 .cmpC, .len1 .cmpD, .len1 .cmpE, .len1 .cmpH, .len1 .cmpL, .len1 .cmpM,
   .len1 .cmpA]

/-- Row Cx of the map of R99. -/
def opcodeRowC : List OpcodeEntry :=
  [.len1 .rnz, .len1 .popB, .len3 .jnz, .len3 .jmp, .len3 .cnz, .len1 .pushB, .len2 .adi, .len1
   .rst0, .len1 .rz, .len1 .ret, .len3 .jz, .fault, .len3 .cz, .len3 .call, .len2 .aci, .len1 .rst1]

/-- Row Dx of the map of R99. -/
def opcodeRowD : List OpcodeEntry :=
  [.len1 .rnc, .len1 .popD, .len3 .jnc, .len2 .outP8, .len3 .cnc, .len1 .pushD, .len2 .sui, .len1
   .rst2, .len1 .rc, .fault, .len3 .jc, .len2 .inP8, .len3 .cc, .fault, .len2 .sbi, .len1 .rst3]

/-- Row Ex of the map of R99. -/
def opcodeRowE : List OpcodeEntry :=
  [.len1 .rpo, .len1 .popH, .len3 .jpo, .len1 .xthl, .len3 .cpo, .len1 .pushH, .len2 .ani, .len1
   .rst4, .len1 .rpe, .len1 .pchl, .len3 .jpe, .len1 .xchg, .len3 .cpe, .fault, .len2 .xri, .len1
   .rst5]

/-- Row Fx of the map of R99. -/
def opcodeRowF : List OpcodeEntry :=
  [.len1 .rp, .len1 .popPsw, .len3 .jp, .len1 .di, .len3 .cp, .len1 .pushPsw, .len2 .ori, .len1
   .rst6, .len1 .rm, .len1 .sphl, .len3 .jm, .len1 .ei, .len3 .cm, .fault, .len2 .cpi, .len1 .rst7]


/-- The sixteen rows of the map (R99). -/
def opcodeRows : List (List OpcodeEntry) :=
  [opcodeRow0, opcodeRow1, opcodeRow2, opcodeRow3, opcodeRow4, opcodeRow5, opcodeRow6, opcodeRow7] ++
  [opcodeRow8, opcodeRow9, opcodeRowA, opcodeRowB, opcodeRowC, opcodeRowD, opcodeRowE, opcodeRowF]

/-- The map entry of an opcode byte: row = high hexadecimal digit, column = low (R99, R122). -/
def opcodeEntry (op : Byte) : OpcodeEntry :=
  (opcodeRows.getD (op.toNat / 16) []).getD (op.toNat % 16) .fault

/-- The length table: the length in bytes of the instruction an opcode byte begins, none for a byte with no handler (R90, R100). -/
def opcodeLength (op : Byte) : Option Nat := (opcodeEntry op).length

/-- Decoding with the two bytes after the opcode at hand; those the instruction does not have are not looked at (R120). -/
def decodeOp (op b1 b2 : Byte) : Instr :=
  match opcodeEntry op with
  | .len1 i => i
  | .len2 f => f b1
  | .len3 f => f (joinBytes b1 b2)
  | .fault => .noInstruction op

/-- What decoding a list of bytes answers. A byte with no handler is taken alone and decoded to the table's row `no_instruction`
(log entry 9): nothing is read after it (R100). -/
inductive DecodeResult where
  /-- The instruction and the bytes after it. -/
  | ok (i : Instr) (rest : List Byte)
  /-- No byte to decode. -/
  | noByte
  /-- The list ends inside the instruction that the byte `opcode` begins. -/
  | truncated (opcode : Byte)
  deriving DecidableEq, Repr

/-- Decoding the operand bytes after the opcode byte `op`, whose map entry is at hand (R95, R96, R101). -/
def decodeOperands (op : Byte) : OpcodeEntry → List Byte → DecodeResult
  | .len1 i, rest => .ok i rest
  | .len2 f, b1 :: rest => .ok (f b1) rest
  | .len3 f, b1 :: b2 :: rest => .ok (f (joinBytes b1 b2)) rest
  | .fault, rest => .ok (.noInstruction op) rest
  | .len2 _, [] => .truncated op
  | .len3 _, [] => .truncated op
  | .len3 _, [_] => .truncated op

/-- Decoding, total on every list of bytes (R90, R99). -/
def decode : List Byte → DecodeResult
  | [] => .noByte
  | op :: rest => decodeOperands op (opcodeEntry op) rest

/-! ### The encoder -/

/-- The 3-bit register code (R93). -/
def Reg.code : Reg → BitVec 3
  | .b => 0b000
  | .c => 0b001
  | .d => 0b010
  | .e => 0b011
  | .h => 0b100
  | .l => 0b101
  | .a => 0b111

/-- The 3-bit operand code: 110 is the memory operand M (R93). -/
def Operand8.code : Operand8 → BitVec 3
  | .reg r => r.code
  | .m => 0b110

/-- The 2-bit pair code of LXI, INX, DCX, DAD (R94). -/
def Pair.code : Pair → BitVec 2
  | .bc => 0b00
  | .de => 0b01
  | .hl => 0b10
  | .sp => 0b11

/-- The 2-bit pair code of PUSH and POP; 11 is PSW (R94). -/
def StackPair.code : StackPair → BitVec 2
  | .bc => 0b00
  | .de => 0b01
  | .hl => 0b10

/-- The field `x` of LDAX and STAX, with the 0 above it: `0 x` (R91). -/
def IndexPair.code : IndexPair → BitVec 2
  | .bc => 0b00
  | .de => 0b01

/-- The 3-bit condition code (R97). -/
def Cond.code : Cond → BitVec 3
  | .nz => 0b000
  | .z => 0b001
  | .nc => 0b010
  | .c => 0b011
  | .po => 0b100
  | .pe => 0b101
  | .p => 0b110
  | .m => 0b111

/-- The 3-bit operation code (R98). -/
def AluOp.code : AluOp → BitVec 3
  | .add => 0b000
  | .adc => 0b001
  | .sub => 0b010
  | .sbb => 0b011
  | .ana => 0b100
  | .xra => 0b101
  | .ora => 0b110
  | .cmp => 0b111

/-- An opcode byte with fields in bits 7:6, 5:3 and 2:0 (R91). -/
def octalByte (x : BitVec 2) (y z : BitVec 3) : Byte := x ++ y ++ z

/-- An opcode byte with fields in bits 7:6, 5:4 and 3:0 (R91). -/
def pairByte (x p : BitVec 2) (z : BitVec 4) : Byte := x ++ p ++ z

/-- The two operand bytes of a 16-bit operand, low byte first (R96). -/
def operandBytes (w : Addr) : List Byte := [lowByte w, highByte w]

/-- The bytes of an instruction of a given shape, from the formats of R91. -/
def Form.encode : Form → List Byte
  | .movRR dst src => [octalByte 0b01 dst.code src.code]
  | .movRM dst => [octalByte 0b01 dst.code 0b110]
  | .movMR src => [octalByte 0b01 0b110 src.code]
  | .mviR dst v => [octalByte 0b00 dst.code 0b110, v]
  | .mviM v => [octalByte 0b00 0b110 0b110, v]
  | .lxi p w => pairByte 0b00 p.code 0b0001 :: operandBytes w
  | .lda a => 0b00111010 :: operandBytes a
  | .sta a => 0b00110010 :: operandBytes a
  | .lhld a => 0b00101010 :: operandBytes a
  | .shld a => 0b00100010 :: operandBytes a
  | .ldax p => [pairByte 0b00 p.code 0b1010]
  | .stax p => [pairByte 0b00 p.code 0b0010]
  | .xchg => [0b11101011]
  | .sphl => [0b11111001]
  | .alu op o => [octalByte 0b10 op.code o.code]
  | .aluImm op v => [octalByte 0b11 op.code 0b110, v]
  | .inr o => [octalByte 0b00 o.code 0b100]
  | .dcr o => [octalByte 0b00 o.code 0b101]
  | .inx p => [pairByte 0b00 p.code 0b0011]
  | .dcx p => [pairByte 0b00 p.code 0b1011]
  | .dad p => [pairByte 0b00 p.code 0b1001]
  | .rlc => [0b00000111]
  | .rrc => [0b00001111]
  | .ral => [0b00010111]
  | .rar => [0b00011111]
  | .cma => [0b00101111]
  | .stc => [0b00110111]
  | .cmc => [0b00111111]
  | .jmp a => 0b11000011 :: operandBytes a
  | .jcc cnd a => octalByte 0b11 cnd.code 0b010 :: operandBytes a
  | .call a => 0b11001101 :: operandBytes a
  | .ccc cnd a => octalByte 0b11 cnd.code 0b100 :: operandBytes a
  | .ret => [0b11001001]
  | .rcc cnd => [octalByte 0b11 cnd.code 0b000]
  | .rst n => [octalByte 0b11 (BitVec.ofFin n) 0b111]
  | .pchl => [0b11101001]
  | .push p => [pairByte 0b11 p.code 0b0101]
  | .pushPsw => [pairByte 0b11 0b11 0b0101]
  | .pop p => [pairByte 0b11 p.code 0b0001]
  | .popPsw => [pairByte 0b11 0b11 0b0001]
  | .xthl => [0b11100011]
  | .inPort p => [0b11011011, p]
  | .outPort p => [0b11010011, p]
  | .ei => [0b11111011]
  | .di => [0b11110011]
  | .hlt => [0b01110110]
  | .nop => [0b00000000]
  | .illegal op => [op]

/-- The bytes of an instruction, at ascending addresses (R64, R91). -/
def encode (i : Instr) : List Byte := i.form.encode

/-- The length in bytes of an instruction (R90): 1, 2 or 3; a byte with no handler is no instruction and has none (R100). -/
def Instr.length (i : Instr) : Option Nat :=
  match i.form with
  | .mviR _ _ | .mviM _ | .aluImm _ _ | .inPort _ | .outPort _ => some 2
  | .lxi _ _ | .lda _ | .sta _ | .lhld _ | .shld _ | .jmp _ | .jcc _ _ | .call _ | .ccc _ _ => some 3
  | .movRR _ _ | .movRM _ | .movMR _ | .ldax _ | .stax _ | .xchg | .sphl | .alu _ _ | .inr _ | .dcr _ | .inx _
  | .dcx _ | .dad _ | .rlc | .rrc | .ral | .rar | .cma | .stc | .cmc | .ret | .rcc _ | .rst _ | .pchl | .push _
  | .pushPsw | .pop _ | .popPsw | .xthl | .ei | .di | .hlt | .nop => some 1
  | .illegal _ => none

/-! ### The host's word -/

/-- Byte `k` of an instruction whose bits are `w`, of which the low `nbits` are kept: bits `8k+7 : 8k`. -/
def tableByte (nbits w k : Nat) : Byte := BitVec.ofNat 8 (w % 2 ^ nbits / 256 ^ k)

/-- The instruction the decoder reads from the `nbits` low bits of `w`, the first byte in the low bits, the bytes above
them zero. -/
def decodeTableWord (nbits w : Nat) : Option Instr :=
  match decode [tableByte nbits w 0, tableByte nbits w 1, tableByte nbits w 2] with
  | .ok i _ => some i
  | .noByte => none
  | .truncated _ => none

end Sys2Proof
end

