-- ==== Sys2Proof/Machine/State.lean ====
section
/-! DEFINITION. The state of the machine (spec 10_state.md), its reset value (R43, R310), and the reasons a step stops. -/

namespace Sys2Proof.Machine

/-- The seven general registers (R20). The pairs BC, DE, HL are views of two of them (R22). -/
structure Regs where
  b : Byte
  c : Byte
  d : Byte
  e : Byte
  h : Byte
  l : Byte
  a : Byte
  deriving DecidableEq, Repr

/-- The five flags, independent booleans (R28): Zero, Sign, Parity, Carry, Auxiliary-Carry. -/
structure Flags where
  z : Bool
  s : Bool
  p : Bool
  cy : Bool
  ac : Bool
  deriving DecidableEq, Repr

/-- Memory: (address, byte) pairs, addresses strictly rising and below 65536, no byte 0x00; an address that is not listed
reads 0x00, the reset contents of R43. The form is `Memory.wf` in Machine/Ops.lean. -/
abbrev Memory := List Host.Cell

/-- The whole state (R20, R25, R27, R28, R36, R39; R41: there is no other), and the model's own record of the port
operations. -/
structure State where
  /-- A, B, C, D, E, H, L (R20). -/
  regs : Regs
  /-- The stack pointer (R27). -/
  sp : Addr
  /-- The program counter: between instructions the address of the next opcode byte (R25, R26). -/
  pc : Addr
  /-- The flags (R28). -/
  flags : Flags
  /-- The interrupt-enable bit (R36). -/
  ie : Bool
  /-- The 65536 bytes of memory (R39). -/
  mem : Memory
  /-- THE MODEL'S OWN: the port operations made so far, newest first (R77, R265, R266; log entry 2). -/
  io : List PortEvent
  deriving DecidableEq, Repr

/-- Why the machine stops with a fault. -/
inductive Fault where
  /-- UnimplementedOrIllegalOpcode (R280): the byte at PC is one of the 13 of R101. Raised by `no_instruction` only. It carries
  the opcode byte and the address it was read from; the state is what it was before the step (R127). It is the outcome the
  spec describes, so it is safe. -/
  | unimplementedOrIllegalOpcode (opcode : Byte) (pc : Addr)
  deriving DecidableEq, Repr

/-- Why an instruction has no meaning. -/
inductive Refusal where
  /-- Raised by an arm of `exec` whose instruction has no meaning yet; no arm raises it now. Safe: nothing is proved of it. -/
  | notModelled (mnemonic : String)
  deriving DecidableEq, Repr

/-- What one instruction answers. -/
abbrev Result := Host.Outcome State Fault Refusal

/-- The state `create` makes (R43, R310): every register, flag, IE, SP and PC zero, memory all 0x00. The spec leaves no reset
value open; the empty port history is the model's (log entry 2). -/
def State.reset : State where
  regs := { b := 0, c := 0, d := 0, e := 0, h := 0, l := 0, a := 0 }
  sp := 0
  pc := 0
  flags := { z := false, s := false, p := false, cy := false, ac := false }
  ie := false
  mem := []
  io := []

end Sys2Proof.Machine
end

