-- ==== Sys2Proof/Machine/Ops.lean ====
section
/-! DEFINITION. The named operations over registers, memory, the stack and the ports (spec 10_state.md, 20_memory.md,
46_io_control.md), fetching an instruction, raising the Fault and taking an interrupt (60_exceptions.md). -/

namespace Sys2Proof.Machine

open Sys2Proof

/-! ### Memory as data -/

/-- The byte listed at address `a`, or 0x00 where none is (R43, R60). -/
def Memory.read : Memory → Nat → Byte
  | [], _ => 0
  | (k, v) :: m, a => if k = a then v else Memory.read m a

/-- The memory without an entry for address `a`: it reads 0x00 there. -/
def Memory.erase (m : Memory) (a : Nat) : Memory := m.filter (fun cell => cell.1 != a)

/-- The memory with the entry `(a, v)` put before the first higher address. -/
def Memory.insert : Memory → Nat → Byte → Memory
  | [], a, v => [(a, v)]
  | (k, w) :: m, a, v => if a < k then (a, v) :: (k, w) :: m else (k, w) :: Memory.insert m a v

/-- The memory after byte `v` is stored at address `a` (R61), in canonical form: storing 0x00 removes the entry. -/
def Memory.write (m : Memory) (a : Nat) (v : Byte) : Memory :=
  if v = 0 then Memory.erase m a else Memory.insert (Memory.erase m a) a v

/-- Each listed address is below the next one. -/
def Memory.rising : Memory → Bool
  | [] => true
  | [_] => true
  | x :: y :: m => decide (x.1 < y.1) && Memory.rising (y :: m)

/-- The canonical form: addresses strictly rising and inside the address space, no entry 0x00 (R39, R42). -/
def Memory.wf (m : Memory) : Bool :=
  Memory.rising m && m.all (fun cell => decide (cell.1 < Config.memSize) && cell.2 != 0)

/-! ### Memory of a state -/

/-- `MemRead(a, 1)` (R60). No access can fail (R62). -/
def State.byteAt (s : State) (a : Addr) : Byte := Memory.read s.mem a.toNat

/-- `MemWrite(a, 1, v)` (R61). -/
def State.setByte (s : State) (a : Addr) (v : Byte) : State := { s with mem := Memory.write s.mem a.toNat v }

/-- `MemRead(a, 2)`: the low byte at `a`, the high byte at `a + 1` modulo 65536 (R63). -/
def State.wordAt (s : State) (a : Addr) : Addr := joinBytes (s.byteAt a) (s.byteAt (a + 1))

/-- `MemWrite(a, 2, v)`: the low byte at `a`, then the high byte at `a + 1` modulo 65536 (R63). -/
def State.setWord (s : State) (a : Addr) (v : Addr) : State := (s.setByte a (lowByte v)).setByte (a + 1) (highByte v)

/-! ### Registers and pairs -/

/-- `x[r]` (R20). -/
def State.reg (s : State) : Reg → Byte
  | .b => s.regs.b
  | .c => s.regs.c
  | .d => s.regs.d
  | .e => s.regs.e
  | .h => s.regs.h
  | .l => s.regs.l
  | .a => s.regs.a

/-- `x[r] <- v` (R21). -/
def State.setReg (s : State) (r : Reg) (v : Byte) : State :=
  match r with
  | .b => { s with regs := { s.regs with b := v } }
  | .c => { s with regs := { s.regs with c := v } }
  | .d => { s with regs := { s.regs with d := v } }
  | .e => { s with regs := { s.regs with e := v } }
  | .h => { s with regs := { s.regs with h := v } }
  | .l => { s with regs := { s.regs with l := v } }
  | .a => { s with regs := { s.regs with a := v } }

/-- `rp[p]`: the high register is the first-named one (R22); `rp[SP]` is SP (R94). -/
def State.pair (s : State) : Pair → Addr
  | .bc => joinBytes (s.reg .c) (s.reg .b)
  | .de => joinBytes (s.reg .e) (s.reg .d)
  | .hl => joinBytes (s.reg .l) (s.reg .h)
  | .sp => s.sp

/-- `rp[p] <- v` (R23); for SP, `sp <- v` (R27). -/
def State.setPair (s : State) (p : Pair) (v : Addr) : State :=
  match p with
  | .bc => (s.setReg .b (highByte v)).setReg .c (lowByte v)
  | .de => (s.setReg .d (highByte v)).setReg .e (lowByte v)
  | .hl => (s.setReg .h (highByte v)).setReg .l (lowByte v)
  | .sp => { s with sp := v }

/-- The pair an LDAX or STAX names, among the pairs (R160, R161). -/
def indexPair : IndexPair → Pair
  | .bc => .bc
  | .de => .de

/-- The pair a PUSH or POP names, among the pairs (R94, R250, R252). -/
def stackPair : StackPair → Pair
  | .bc => .bc
  | .de => .de
  | .hl => .hl

/-- `rp[HL]`, the address of the operand M (R93). -/
def State.hl (s : State) : Addr := s.pair .hl

/-- The effective address of LDAX and STAX: BC or DE (R149, R160, R161). -/
def State.indexAddr (s : State) (p : IndexPair) : Addr := s.pair (indexPair p)

/-- `pc <- v` (R25). -/
def State.setPc (s : State) (v : Addr) : State := { s with pc := v }

/-- `pc <- pc + n` modulo 65536, for an instruction that is no control transfer (R26, R120 step 4). -/
def State.advance (s : State) (n : Nat) : State := s.setPc (s.pc + BitVec.ofNat 16 n)

/-! ### The stack -/

/-- `Push16(v)` (R66): the high byte to `sp - 1`, the low byte to `sp - 2`, then SP down by 2, all modulo 65536. -/
def State.push16 (s : State) (v : Addr) : State :=
  { (s.setByte (s.sp - 1) (highByte v)).setByte (s.sp - 2) (lowByte v) with sp := s.sp - 2 }

/-- The word `Pop16()` returns (R67). -/
def State.top16 (s : State) : Addr := s.wordAt s.sp

/-- The state `Pop16()` leaves: SP up by 2, memory unchanged (R67). -/
def State.pop16 (s : State) : State := { s with sp := s.sp + 2 }

/-! ### The ports -/

/-- `PortRead(p)` (R265): the byte the I/O environment answers, free (log entry 1). -/
def State.portRead (s : State) (port : Byte) : Byte := Config.portAnswer s.io port

/-- The state after port `port` was read and answered `v`: only the record of port operations grows (R77, R265). -/
def State.recordInput (s : State) (port v : Byte) : State := { s with io := .input port v :: s.io }

/-- `PortWrite(p, v)` (R266): the output event is recorded, the block's state is not changed. -/
def State.portWrite (s : State) (port v : Byte) : State := { s with io := .output port v :: s.io }

/-! ### Fetching -/

/-- The instruction at PC: opcode at `pc`, operand bytes at `pc + 1` and `pc + 2` modulo 65536 (R64, R120). `decodeOp` looks at
an operand byte only where the instruction has it, and a read has no effect (R60, R70). -/
def State.fetch (s : State) : Instr :=
  decodeOp (s.byteAt s.pc) (s.byteAt (s.pc + 1)) (s.byteAt (s.pc + 2))

/-! ### The Fault and the interrupt -/

/-- `raise Fault(opcode, pc)` (R280): the step reports the byte and its address; nothing is changed, nothing is pushed, control
goes to no vector. -/
def raiseFault (opcode : Byte) (s : State) : Result := .fault (.unimplementedOrIllegalOpcode opcode s.pc)

/-- The address `8 * n` of restart vector `n` (R71, R236, R285). -/
def vectorAddr (n : RstVector) : Addr := BitVec.ofNat 16 (8 * n.val)

/-- `raise(n)`, TAKING AN INTERRUPT (R285, R289): with IE = 0 nothing; else push PC, go to `8 * n`, clear IE. The host calls it
between steps (R133, R292). The return is RET (R290), `returnOp` in Machine/Branch.lean. -/
def raise (n : RstVector) (s : State) : State :=
  if s.ie then { (s.push16 s.pc).setPc (vectorAddr n) with ie := false } else s

end Sys2Proof.Machine
end

