-- ==== Sys2Proof/Machine/Operands.lean ====
section
/-! DEFINITION. The operand forms an instruction reads and writes (spec 41_data_transfer.md R149, 42_arithmetic.md R170) and
the conditions (30_encoding.md R97). The immediate forms are arguments of the instruction itself (R95, R96). -/

namespace Sys2Proof.Machine

open Sys2Proof

/-- `Src8`: register `r`, or the byte at HL for M (R170). -/
def readOperand (o : Operand8) (s : State) : Byte :=
  match o with
  | .reg r => s.reg r
  | .m => s.byteAt s.hl

/-- Writing the operand an INR or DCR names: register `r`, or the byte at HL for M (R183 to R186). -/
def writeOperand (o : Operand8) (v : Byte) (s : State) : State :=
  match o with
  | .reg r => s.setReg r v
  | .m => s.setByte s.hl v

/-- `cond(ccc)`: one flag is read, nothing is written (R97). -/
def condHolds (cnd : Cond) (f : Flags) : Bool :=
  match cnd with
  | .nz => !f.z
  | .z => f.z
  | .nc => !f.cy
  | .c => f.cy
  | .po => !f.p
  | .pe => f.p
  | .p => !f.s
  | .m => f.s

end Sys2Proof.Machine
end

