-- ==== Sys2Proof/Machine/Flags.lean ====
section
/-! DEFINITION. The flag model (spec 10_state.md section 4): parity, `SetZSP`, `Add8`, `Sub8`, `LogicFlags`, the flags of INR,
DCR and DAD, and the PSW byte. -/

namespace Sys2Proof.Machine

open Sys2Proof

/-- The value taken for the parameter `AC_SUB` (R9, R32, D8): the spec's default (DESIGN CHOICE to fix it, log entry 3). -/
def acSub : AcSub := .borrow

/-- The number of 1 bits of a byte (R10). -/
def popcount (v : Byte) : Nat := (List.range 8).countP (fun i => v.getLsbD i)

/-- `parity8`: true when the number of 1 bits is even (R29). -/
def parity8 (v : Byte) : Bool := popcount v % 2 == 0

/-- `SetZSP(v)`: Zero, Sign and Parity from `v`, the other two kept (R30). -/
def setZSP (v : Byte) (f : Flags) : Flags := { f with z := v == 0, s := v.getLsbD 7, p := parity8 v }

/-- The low nibble of a byte, `v & 0x0F`. -/
def lowNibble (v : Byte) : Nat := v.toNat % 16

/-- Auxiliary-Carry on a subtraction whose low nibble borrows or not, under the parameter `AC_SUB` (R32). -/
def acAfterSub (nibbleBorrow : Bool) : Bool :=
  match acSub with
  | .borrow => nibbleBorrow
  | .carryOfComplement => !nibbleBorrow

/-- `Add8(a, b, cin)`: the 8-bit sum and all five flags (R31). -/
def add8 (a b : Byte) (cin : Bool) : Byte × Flags :=
  let w := a.toNat + b.toNat + cin.toNat
  let n := lowNibble a + lowNibble b + cin.toNat
  let r := BitVec.ofNat 8 w
  (r, { z := r == 0, s := r.getLsbD 7, p := parity8 r, cy := decide (255 < w), ac := decide (15 < n) })

/-- `Sub8(a, b, bin)`: the 8-bit difference and all five flags; CY is the borrow (R32). -/
def sub8 (a b : Byte) (bin : Bool) : Byte × Flags :=
  let w : Int := a.toNat - b.toNat - bin.toNat
  let n : Int := lowNibble a - lowNibble b - bin.toNat
  let r := BitVec.ofInt 8 w
  (r, { z := r == 0, s := r.getLsbD 7, p := parity8 r, cy := decide (w < 0), ac := acAfterSub (decide (n < 0)) })

/-- `LogicFlags()` for the new accumulator `v`: Z, S, P from it, CY and AC 0 (R33). -/
def logicFlags (v : Byte) : Flags := { z := v == 0, s := v.getLsbD 7, p := parity8 v, cy := false, ac := false }

/-- The flags after INR of a byte that was `v`: Z, S, P and AC; CY kept (R183). -/
def inrFlags (v : Byte) (f : Flags) : Flags := { setZSP (v + 1) f with ac := decide (15 < lowNibble v + 1) }

/-- The flags after DCR of a byte that was `v`: Z, S, P and AC; CY kept (R185). -/
def dcrFlags (v : Byte) (f : Flags) : Flags :=
  { setZSP (v - 1) f with ac := acAfterSub (decide ((lowNibble v : Int) - 1 < 0)) }

/-- A flag as the bit 0 of a byte. -/
def flagBit (b : Bool) : Byte := if b then 1 else 0

/-- `PackFlags()`: bit 7 to bit 0 hold S, Z, 0, AC, 0, P, 1, CY (R35, D7). -/
def packFlags (f : Flags) : Byte :=
  (flagBit f.s <<< 7) ||| (flagBit f.z <<< 6) ||| (flagBit f.ac <<< 4) ||| (flagBit f.p <<< 2) ||| 0x02 ||| flagBit f.cy

/-- `UnpackFlags(b)`: S, Z, AC, P, CY from bits 7, 6, 4, 2, 0; bits 5, 3, 1 discarded (R35, D7). -/
def unpackFlags (b : Byte) : Flags :=
  { z := b.getLsbD 6, s := b.getLsbD 7, p := b.getLsbD 2, cy := b.getLsbD 0, ac := b.getLsbD 4 }

/-- The state with the flags `f`. -/
def State.setFlags (s : State) (f : Flags) : State := { s with flags := f }

/-- The state with Carry `c`, the other four flags kept. -/
def State.setCarry (s : State) (c : Bool) : State := s.setFlags { s.flags with cy := c }

end Sys2Proof.Machine
end

