-- ==== Sys2Proof/Machine/Arithmetic.lean ====
section
/-! DEFINITION. The arithmetic instructions (spec 42_arithmetic.md): shared operations, then one meaning for each
instruction. Every result wraps (R191); PC advances by the length (R123). -/

namespace Sys2Proof.Machine

open Sys2Proof

/-! ### Shared operations -/

/-- The accumulator and the flags both written from `r`. -/
def State.setResult (s : State) (r : Byte × Flags) : State := (s.setReg .a r.1).setFlags r.2

/-- `x[A] <- Add8(x[A], v, 0)` (R171 to R173). -/
def addA (v : Byte) (s : State) : State := s.setResult (add8 (s.reg .a) v false)

/-- `x[A] <- Add8(x[A], v, CY)` (R174 to R176). -/
def adcA (v : Byte) (s : State) : State := s.setResult (add8 (s.reg .a) v s.flags.cy)

/-- `x[A] <- Sub8(x[A], v, 0)` (R177 to R179). -/
def subA (v : Byte) (s : State) : State := s.setResult (sub8 (s.reg .a) v false)

/-- `x[A] <- Sub8(x[A], v, CY)` (R180 to R182). -/
def sbbA (v : Byte) (s : State) : State := s.setResult (sub8 (s.reg .a) v s.flags.cy)

/-- INR of a register or of M: read, add 1, write back, flags Z, S, P, AC (R183, R184). -/
def increment (o : Operand8) (s : State) : State :=
  (writeOperand o (readOperand o s + 1) s).setFlags (inrFlags (readOperand o s) s.flags)

/-- DCR of a register or of M: read, subtract 1, write back, flags Z, S, P, AC (R185, R186). -/
def decrement (o : Operand8) (s : State) : State :=
  (writeOperand o (readOperand o s - 1) s).setFlags (dcrFlags (readOperand o s) s.flags)

/-- `rp[p] <- rp[p] + 1`, no flag (R187). -/
def incrementPair (p : Pair) (s : State) : State := s.setPair p (s.pair p + 1)

/-- `rp[p] <- rp[p] - 1`, no flag (R188). -/
def decrementPair (p : Pair) (s : State) : State := s.setPair p (s.pair p - 1)

/-- `rp[HL] <- rp[HL] + rp[p]`; CY is bit 16 of the sum, the other flags are kept (R189). -/
def addPair (p : Pair) (s : State) : State :=
  let w := s.hl.toNat + (s.pair p).toNat
  (s.setPair .hl (BitVec.ofNat 16 w)).setCarry (decide (65535 < w))

/-! ### The meanings -/

/-- ADD B (R171). -/
def execAddB (s : State) : Result := .next ((addA (readOperand (.reg .b) s) s).advance 1)

/-- ADD C (R171). -/
def execAddC (s : State) : Result := .next ((addA (readOperand (.reg .c) s) s).advance 1)

/-- ADD D (R171). -/
def execAddD (s : State) : Result := .next ((addA (readOperand (.reg .d) s) s).advance 1)

/-- ADD E (R171). -/
def execAddE (s : State) : Result := .next ((addA (readOperand (.reg .e) s) s).advance 1)

/-- ADD H (R171). -/
def execAddH (s : State) : Result := .next ((addA (readOperand (.reg .h) s) s).advance 1)

/-- ADD L (R171). -/
def execAddL (s : State) : Result := .next ((addA (readOperand (.reg .l) s) s).advance 1)

/-- ADD A (R171). -/
def execAddA (s : State) : Result := .next ((addA (readOperand (.reg .a) s) s).advance 1)

/-- ADD M (R172). -/
def execAddM (s : State) : Result := .next ((addA (readOperand .m s) s).advance 1)

/-- ADI d8 (R173). -/
def execAdi (imm : Byte) (s : State) : Result := .next ((addA imm s).advance 2)

/-- ADC B (R174). -/
def execAdcB (s : State) : Result := .next ((adcA (readOperand (.reg .b) s) s).advance 1)

/-- ADC C (R174). -/
def execAdcC (s : State) : Result := .next ((adcA (readOperand (.reg .c) s) s).advance 1)

/-- ADC D (R174). -/
def execAdcD (s : State) : Result := .next ((adcA (readOperand (.reg .d) s) s).advance 1)

/-- ADC E (R174). -/
def execAdcE (s : State) : Result := .next ((adcA (readOperand (.reg .e) s) s).advance 1)

/-- ADC H (R174). -/
def execAdcH (s : State) : Result := .next ((adcA (readOperand (.reg .h) s) s).advance 1)

/-- ADC L (R174). -/
def execAdcL (s : State) : Result := .next ((adcA (readOperand (.reg .l) s) s).advance 1)

/-- ADC A (R174). -/
def execAdcA (s : State) : Result := .next ((adcA (readOperand (.reg .a) s) s).advance 1)

/-- ADC M (R175). -/
def execAdcM (s : State) : Result := .next ((adcA (readOperand .m s) s).advance 1)

/-- ACI d8 (R176). -/
def execAci (imm : Byte) (s : State) : Result := .next ((adcA imm s).advance 2)

/-- SUB B (R177). -/
def execSubB (s : State) : Result := .next ((subA (readOperand (.reg .b) s) s).advance 1)

/-- SUB C (R177). -/
def execSubC (s : State) : Result := .next ((subA (readOperand (.reg .c) s) s).advance 1)

/-- SUB D (R177). -/
def execSubD (s : State) : Result := .next ((subA (readOperand (.reg .d) s) s).advance 1)

/-- SUB E (R177). -/
def execSubE (s : State) : Result := .next ((subA (readOperand (.reg .e) s) s).advance 1)

/-- SUB H (R177). -/
def execSubH (s : State) : Result := .next ((subA (readOperand (.reg .h) s) s).advance 1)

/-- SUB L (R177). -/
def execSubL (s : State) : Result := .next ((subA (readOperand (.reg .l) s) s).advance 1)

/-- SUB A (R177). -/
def execSubA (s : State) : Result := .next ((subA (readOperand (.reg .a) s) s).advance 1)

/-- SUB M (R178). -/
def execSubM (s : State) : Result := .next ((subA (readOperand .m s) s).advance 1)

/-- SUI d8 (R179). -/
def execSui (imm : Byte) (s : State) : Result := .next ((subA imm s).advance 2)

/-- SBB B (R180). -/
def execSbbB (s : State) : Result := .next ((sbbA (readOperand (.reg .b) s) s).advance 1)

/-- SBB C (R180). -/
def execSbbC (s : State) : Result := .next ((sbbA (readOperand (.reg .c) s) s).advance 1)

/-- SBB D (R180). -/
def execSbbD (s : State) : Result := .next ((sbbA (readOperand (.reg .d) s) s).advance 1)

/-- SBB E (R180). -/
def execSbbE (s : State) : Result := .next ((sbbA (readOperand (.reg .e) s) s).advance 1)

/-- SBB H (R180). -/
def execSbbH (s : State) : Result := .next ((sbbA (readOperand (.reg .h) s) s).advance 1)

/-- SBB L (R180). -/
def execSbbL (s : State) : Result := .next ((sbbA (readOperand (.reg .l) s) s).advance 1)

/-- SBB A (R180). -/
def execSbbA (s : State) : Result := .next ((sbbA (readOperand (.reg .a) s) s).advance 1)

/-- SBB M (R181). -/
def execSbbM (s : State) : Result := .next ((sbbA (readOperand .m s) s).advance 1)

/-- SBI d8 (R182). -/
def execSbi (imm : Byte) (s : State) : Result := .next ((sbbA imm s).advance 2)

/-- INR B (R183). -/
def execInrB (s : State) : Result := .next ((increment (.reg .b) s).advance 1)

/-- INR C (R183). -/
def execInrC (s : State) : Result := .next ((increment (.reg .c) s).advance 1)

/-- INR D (R183). -/
def execInrD (s : State) : Result := .next ((increment (.reg .d) s).advance 1)

/-- INR E (R183). -/
def execInrE (s : State) : Result := .next ((increment (.reg .e) s).advance 1)

/-- INR H (R183). -/
def execInrH (s : State) : Result := .next ((increment (.reg .h) s).advance 1)

/-- INR L (R183). -/
def execInrL (s : State) : Result := .next ((increment (.reg .l) s).advance 1)

/-- INR A (R183). -/
def execInrA (s : State) : Result := .next ((increment (.reg .a) s).advance 1)

/-- INR M (R184). -/
def execInrM (s : State) : Result := .next ((increment .m s).advance 1)

/-- DCR B (R185). -/
def execDcrB (s : State) : Result := .next ((decrement (.reg .b) s).advance 1)

/-- DCR C (R185). -/
def execDcrC (s : State) : Result := .next ((decrement (.reg .c) s).advance 1)

/-- DCR D (R185). -/
def execDcrD (s : State) : Result := .next ((decrement (.reg .d) s).advance 1)

/-- DCR E (R185). -/
def execDcrE (s : State) : Result := .next ((decrement (.reg .e) s).advance 1)

/-- DCR H (R185). -/
def execDcrH (s : State) : Result := .next ((decrement (.reg .h) s).advance 1)

/-- DCR L (R185). -/
def execDcrL (s : State) : Result := .next ((decrement (.reg .l) s).advance 1)

/-- DCR A (R185). -/
def execDcrA (s : State) : Result := .next ((decrement (.reg .a) s).advance 1)

/-- DCR M (R186). -/
def execDcrM (s : State) : Result := .next ((decrement .m s).advance 1)

/-- INX B (R187). -/
def execInxB (s : State) : Result := .next ((incrementPair .bc s).advance 1)

/-- INX D (R187). -/
def execInxD (s : State) : Result := .next ((incrementPair .de s).advance 1)

/-- INX H (R187). -/
def execInxH (s : State) : Result := .next ((incrementPair .hl s).advance 1)

/-- INX SP (R187). -/
def execInxSP (s : State) : Result := .next ((incrementPair .sp s).advance 1)

/-- DCX B (R188). -/
def execDcxB (s : State) : Result := .next ((decrementPair .bc s).advance 1)

/-- DCX D (R188). -/
def execDcxD (s : State) : Result := .next ((decrementPair .de s).advance 1)

/-- DCX H (R188). -/
def execDcxH (s : State) : Result := .next ((decrementPair .hl s).advance 1)

/-- DCX SP (R188). -/
def execDcxSP (s : State) : Result := .next ((decrementPair .sp s).advance 1)

/-- DAD B (R189). -/
def execDadB (s : State) : Result := .next ((addPair .bc s).advance 1)

/-- DAD D (R189). -/
def execDadD (s : State) : Result := .next ((addPair .de s).advance 1)

/-- DAD H (R189). -/
def execDadH (s : State) : Result := .next ((addPair .hl s).advance 1)

/-- DAD SP (R189). -/
def execDadSP (s : State) : Result := .next ((addPair .sp s).advance 1)

end Sys2Proof.Machine
end

