-- ==== Sys2Proof/Machine/Branch.lean ====
section
/-! DEFINITION. The branch instructions (spec 44_branch.md): shared operations, then one meaning for each instruction. These
set the final PC themselves (R26, R123); no flag is written. -/

namespace Sys2Proof.Machine

open Sys2Proof

/-! ### Shared operations -/

/-- `pc <- target` (R230). -/
def jumpTo (target : Addr) (s : State) : State := s.setPc target

/-- Jump when the condition holds, else `pc <- pc + 3` (R231). -/
def jumpIf (cnd : Cond) (target : Addr) (s : State) : State :=
  if condHolds cnd s.flags then jumpTo target s else s.advance 3

/-- `Push16(pc + 3); pc <- target` (R232). -/
def callTo (target : Addr) (s : State) : State := (s.push16 (s.pc + 3)).setPc target

/-- Call when the condition holds, else `pc <- pc + 3` with the stack untouched (R233). -/
def callIf (cnd : Cond) (target : Addr) (s : State) : State :=
  if condHolds cnd s.flags then callTo target s else s.advance 3

/-- `pc <- Pop16()` (R234): also the return from an interrupt handler (R290). -/
def returnOp (s : State) : State := s.pop16.setPc s.top16

/-- Return when the condition holds, else `pc <- pc + 1` with SP unchanged (R235). -/
def returnIf (cnd : Cond) (s : State) : State :=
  if condHolds cnd s.flags then returnOp s else s.advance 1

/-- `Push16(pc + 1); pc <- 8 * n` (R236). -/
def restart (n : RstVector) (s : State) : State := (s.push16 (s.pc + 1)).setPc (vectorAddr n)

/-- `pc <- rp[HL]` (R237). -/
def jumpHL (s : State) : State := s.setPc s.hl

/-! ### The meanings -/

/-- JMP a16 (R230). -/
def execJmp (addr : Addr) (s : State) : Result := .next (jumpTo addr s)

/-- JNZ a16 (R231). -/
def execJnz (addr : Addr) (s : State) : Result := .next (jumpIf .nz addr s)

/-- JZ a16 (R231). -/
def execJz (addr : Addr) (s : State) : Result := .next (jumpIf .z addr s)

/-- JNC a16 (R231). -/
def execJnc (addr : Addr) (s : State) : Result := .next (jumpIf .nc addr s)

/-- JC a16 (R231). -/
def execJc (addr : Addr) (s : State) : Result := .next (jumpIf .c addr s)

/-- JPO a16 (R231). -/
def execJpo (addr : Addr) (s : State) : Result := .next (jumpIf .po addr s)

/-- JPE a16 (R231). -/
def execJpe (addr : Addr) (s : State) : Result := .next (jumpIf .pe addr s)

/-- JP a16 (R231). -/
def execJp (addr : Addr) (s : State) : Result := .next (jumpIf .p addr s)

/-- JM a16 (R231). -/
def execJm (addr : Addr) (s : State) : Result := .next (jumpIf .m addr s)

/-- CALL a16 (R232). -/
def execCall (addr : Addr) (s : State) : Result := .next (callTo addr s)

/-- CNZ a16 (R233). -/
def execCnz (addr : Addr) (s : State) : Result := .next (callIf .nz addr s)

/-- CZ a16 (R233). -/
def execCz (addr : Addr) (s : State) : Result := .next (callIf .z addr s)

/-- CNC a16 (R233). -/
def execCnc (addr : Addr) (s : State) : Result := .next (callIf .nc addr s)

/-- CC a16 (R233). -/
def execCc (addr : Addr) (s : State) : Result := .next (callIf .c addr s)

/-- CPO a16 (R233). -/
def execCpo (addr : Addr) (s : State) : Result := .next (callIf .po addr s)

/-- CPE a16 (R233). -/
def execCpe (addr : Addr) (s : State) : Result := .next (callIf .pe addr s)

/-- CP a16 (R233). -/
def execCp (addr : Addr) (s : State) : Result := .next (callIf .p addr s)

/-- CM a16 (R233). -/
def execCm (addr : Addr) (s : State) : Result := .next (callIf .m addr s)

/-- RET (R234). -/
def execRet (s : State) : Result := .next (returnOp s)

/-- RNZ (R235). -/
def execRnz (s : State) : Result := .next (returnIf .nz s)

/-- RZ (R235). -/
def execRz (s : State) : Result := .next (returnIf .z s)

/-- RNC (R235). -/
def execRnc (s : State) : Result := .next (returnIf .nc s)

/-- RC (R235). -/
def execRc (s : State) : Result := .next (returnIf .c s)

/-- RPO (R235). -/
def execRpo (s : State) : Result := .next (returnIf .po s)

/-- RPE (R235). -/
def execRpe (s : State) : Result := .next (returnIf .pe s)

/-- RP (R235). -/
def execRp (s : State) : Result := .next (returnIf .p s)

/-- RM (R235). -/
def execRm (s : State) : Result := .next (returnIf .m s)

/-- RST 0 (R236). -/
def execRst0 (s : State) : Result := .next (restart 0 s)

/-- RST 1 (R236). -/
def execRst1 (s : State) : Result := .next (restart 1 s)

/-- RST 2 (R236). -/
def execRst2 (s : State) : Result := .next (restart 2 s)

/-- RST 3 (R236). -/
def execRst3 (s : State) : Result := .next (restart 3 s)

/-- RST 4 (R236). -/
def execRst4 (s : State) : Result := .next (restart 4 s)

/-- RST 5 (R236). -/
def execRst5 (s : State) : Result := .next (restart 5 s)

/-- RST 6 (R236). -/
def execRst6 (s : State) : Result := .next (restart 6 s)

/-- RST 7 (R236). -/
def execRst7 (s : State) : Result := .next (restart 7 s)

/-- PCHL (R237). -/
def execPchl (s : State) : Result := .next (jumpHL s)

end Sys2Proof.Machine
end

