-- ==== Sys2Proof/Machine/DataTransfer.lean ====
section
/-! DEFINITION. The data transfer instructions (spec 41_data_transfer.md): shared operations, then one meaning for each
instruction. No flag is written; PC advances by the length (R123). -/

namespace Sys2Proof.Machine

open Sys2Proof

/-! ### Shared operations -/

/-- `x[dst] <- x[src]` (R150). -/
def moveReg (dst src : Reg) (s : State) : State := s.setReg dst (s.reg src)

/-- `x[dst] <- MemRead(rp[HL], 1)`, the address taken before the write (R151). -/
def loadMem (dst : Reg) (s : State) : State := s.setReg dst (s.byteAt s.hl)

/-- `MemWrite(rp[HL], 1, x[src])` (R152). -/
def storeMem (src : Reg) (s : State) : State := s.setByte s.hl (s.reg src)

/-- `x[dst] <- imm8` (R153). -/
def moveImm (dst : Reg) (imm : Byte) (s : State) : State := s.setReg dst imm

/-- `MemWrite(rp[HL], 1, imm8)` (R154). -/
def storeImm (imm : Byte) (s : State) : State := s.setByte s.hl imm

/-- `rp[p] <- imm16` (R155). -/
def loadPairImm (p : Pair) (imm : Addr) (s : State) : State := s.setPair p imm

/-- `x[A] <- MemRead(imm16, 1)` (R156). -/
def loadAcc (addr : Addr) (s : State) : State := s.setReg .a (s.byteAt addr)

/-- `MemWrite(imm16, 1, x[A])` (R157). -/
def storeAcc (addr : Addr) (s : State) : State := s.setByte addr (s.reg .a)

/-- `rp[HL] <- MemRead(imm16, 2)` (R158). -/
def loadHL (addr : Addr) (s : State) : State := s.setPair .hl (s.wordAt addr)

/-- `MemWrite(imm16, 2, rp[HL])` (R159). -/
def storeHL (addr : Addr) (s : State) : State := s.setWord addr s.hl

/-- `x[A] <- MemRead(rp[BC or DE], 1)` (R160). -/
def loadAccIndirect (p : IndexPair) (s : State) : State := s.setReg .a (s.byteAt (s.indexAddr p))

/-- `MemWrite(rp[BC or DE], 1, x[A])` (R161). -/
def storeAccIndirect (p : IndexPair) (s : State) : State := s.setByte (s.indexAddr p) (s.reg .a)

/-- HL and DE exchange (R162). -/
def exchange (s : State) : State := (s.setPair .hl (s.pair .de)).setPair .de (s.pair .hl)

/-- `sp <- rp[HL]` (R163). -/
def spFromHL (s : State) : State := s.setPair .sp s.hl

/-! ### The meanings -/

/-- MOV B,B (R150). -/
def execMovBB (s : State) : Result := .next ((moveReg .b .b s).advance 1)

/-- MOV B,C (R150). -/
def execMovBC (s : State) : Result := .next ((moveReg .b .c s).advance 1)

/-- MOV B,D (R150). -/
def execMovBD (s : State) : Result := .next ((moveReg .b .d s).advance 1)

/-- MOV B,E (R150). -/
def execMovBE (s : State) : Result := .next ((moveReg .b .e s).advance 1)

/-- MOV B,H (R150). -/
def execMovBH (s : State) : Result := .next ((moveReg .b .h s).advance 1)

/-- MOV B,L (R150). -/
def execMovBL (s : State) : Result := .next ((moveReg .b .l s).advance 1)

/-- MOV B,A (R150). -/
def execMovBA (s : State) : Result := .next ((moveReg .b .a s).advance 1)

/-- MOV C,B (R150). -/
def execMovCB (s : State) : Result := .next ((moveReg .c .b s).advance 1)

/-- MOV C,C (R150). -/
def execMovCC (s : State) : Result := .next ((moveReg .c .c s).advance 1)

/-- MOV C,D (R150). -/
def execMovCD (s : State) : Result := .next ((moveReg .c .d s).advance 1)

/-- MOV C,E (R150). -/
def execMovCE (s : State) : Result := .next ((moveReg .c .e s).advance 1)

/-- MOV C,H (R150). -/
def execMovCH (s : State) : Result := .next ((moveReg .c .h s).advance 1)

/-- MOV C,L (R150). -/
def execMovCL (s : State) : Result := .next ((moveReg .c .l s).advance 1)

/-- MOV C,A (R150). -/
def execMovCA (s : State) : Result := .next ((moveReg .c .a s).advance 1)

/-- MOV D,B (R150). -/
def execMovDB (s : State) : Result := .next ((moveReg .d .b s).advance 1)

/-- MOV D,C (R150). -/
def execMovDC (s : State) : Result := .next ((moveReg .d .c s).advance 1)

/-- MOV D,D (R150). -/
def execMovDD (s : State) : Result := .next ((moveReg .d .d s).advance 1)

/-- MOV D,E (R150). -/
def execMovDE (s : State) : Result := .next ((moveReg .d .e s).advance 1)

/-- MOV D,H (R150). -/
def execMovDH (s : State) : Result := .next ((moveReg .d .h s).advance 1)

/-- MOV D,L (R150). -/
def execMovDL (s : State) : Result := .next ((moveReg .d .l s).advance 1)

/-- MOV D,A (R150). -/
def execMovDA (s : State) : Result := .next ((moveReg .d .a s).advance 1)

/-- MOV E,B (R150). -/
def execMovEB (s : State) : Result := .next ((moveReg .e .b s).advance 1)

/-- MOV E,C (R150). -/
def execMovEC (s : State) : Result := .next ((moveReg .e .c s).advance 1)

/-- MOV E,D (R150). -/
def execMovED (s : State) : Result := .next ((moveReg .e .d s).advance 1)

/-- MOV E,E (R150). -/
def execMovEE (s : State) : Result := .next ((moveReg .e .e s).advance 1)

/-- MOV E,H (R150). -/
def execMovEH (s : State) : Result := .next ((moveReg .e .h s).advance 1)

/-- MOV E,L (R150). -/
def execMovEL (s : State) : Result := .next ((moveReg .e .l s).advance 1)

/-- MOV E,A (R150). -/
def execMovEA (s : State) : Result := .next ((moveReg .e .a s).advance 1)

/-- MOV H,B (R150). -/
def execMovHB (s : State) : Result := .next ((moveReg .h .b s).advance 1)

/-- MOV H,C (R150). -/
def execMovHC (s : State) : Result := .next ((moveReg .h .c s).advance 1)

/-- MOV H,D (R150). -/
def execMovHD (s : State) : Result := .next ((moveReg .h .d s).advance 1)

/-- MOV H,E (R150). -/
def execMovHE (s : State) : Result := .next ((moveReg .h .e s).advance 1)

/-- MOV H,H (R150). -/
def execMovHH (s : State) : Result := .next ((moveReg .h .h s).advance 1)

/-- MOV H,L (R150). -/
def execMovHL (s : State) : Result := .next ((moveReg .h .l s).advance 1)

/-- MOV H,A (R150). -/
def execMovHA (s : State) : Result := .next ((moveReg .h .a s).advance 1)

/-- MOV L,B (R150). -/
def execMovLB (s : State) : Result := .next ((moveReg .l .b s).advance 1)

/-- MOV L,C (R150). -/
def execMovLC (s : State) : Result := .next ((moveReg .l .c s).advance 1)

/-- MOV L,D (R150). -/
def execMovLD (s : State) : Result := .next ((moveReg .l .d s).advance 1)

/-- MOV L,E (R150). -/
def execMovLE (s : State) : Result := .next ((moveReg .l .e s).advance 1)

/-- MOV L,H (R150). -/
def execMovLH (s : State) : Result := .next ((moveReg .l .h s).advance 1)

/-- MOV L,L (R150). -/
def execMovLL (s : State) : Result := .next ((moveReg .l .l s).advance 1)

/-- MOV L,A (R150). -/
def execMovLA (s : State) : Result := .next ((moveReg .l .a s).advance 1)

/-- MOV A,B (R150). -/
def execMovAB (s : State) : Result := .next ((moveReg .a .b s).advance 1)

/-- MOV A,C (R150). -/
def execMovAC (s : State) : Result := .next ((moveReg .a .c s).advance 1)

/-- MOV A,D (R150). -/
def execMovAD (s : State) : Result := .next ((moveReg .a .d s).advance 1)

/-- MOV A,E (R150). -/
def execMovAE (s : State) : Result := .next ((moveReg .a .e s).advance 1)

/-- MOV A,H (R150). -/
def execMovAH (s : State) : Result := .next ((moveReg .a .h s).advance 1)

/-- MOV A,L (R150). -/
def execMovAL (s : State) : Result := .next ((moveReg .a .l s).advance 1)

/-- MOV A,A (R150). -/
def execMovAA (s : State) : Result := .next ((moveReg .a .a s).advance 1)

/-- MOV B,M (R151). -/
def execMovBM (s : State) : Result := .next ((loadMem .b s).advance 1)

/-- MOV C,M (R151). -/
def execMovCM (s : State) : Result := .next ((loadMem .c s).advance 1)

/-- MOV D,M (R151). -/
def execMovDM (s : State) : Result := .next ((loadMem .d s).advance 1)

/-- MOV E,M (R151). -/
def execMovEM (s : State) : Result := .next ((loadMem .e s).advance 1)

/-- MOV H,M (R151). -/
def execMovHM (s : State) : Result := .next ((loadMem .h s).advance 1)

/-- MOV L,M (R151). -/
def execMovLM (s : State) : Result := .next ((loadMem .l s).advance 1)

/-- MOV A,M (R151). -/
def execMovAM (s : State) : Result := .next ((loadMem .a s).advance 1)

/-- MOV M,B (R152). -/
def execMovMB (s : State) : Result := .next ((storeMem .b s).advance 1)

/-- MOV M,C (R152). -/
def execMovMC (s : State) : Result := .next ((storeMem .c s).advance 1)

/-- MOV M,D (R152). -/
def execMovMD (s : State) : Result := .next ((storeMem .d s).advance 1)

/-- MOV M,E (R152). -/
def execMovME (s : State) : Result := .next ((storeMem .e s).advance 1)

/-- MOV M,H (R152). -/
def execMovMH (s : State) : Result := .next ((storeMem .h s).advance 1)

/-- MOV M,L (R152). -/
def execMovML (s : State) : Result := .next ((storeMem .l s).advance 1)

/-- MOV M,A (R152). -/
def execMovMA (s : State) : Result := .next ((storeMem .a s).advance 1)

/-- MVI B,d8 (R153). -/
def execMviB (imm : Byte) (s : State) : Result := .next ((moveImm .b imm s).advance 2)

/-- MVI C,d8 (R153). -/
def execMviC (imm : Byte) (s : State) : Result := .next ((moveImm .c imm s).advance 2)

/-- MVI D,d8 (R153). -/
def execMviD (imm : Byte) (s : State) : Result := .next ((moveImm .d imm s).advance 2)

/-- MVI E,d8 (R153). -/
def execMviE (imm : Byte) (s : State) : Result := .next ((moveImm .e imm s).advance 2)

/-- MVI H,d8 (R153). -/
def execMviH (imm : Byte) (s : State) : Result := .next ((moveImm .h imm s).advance 2)

/-- MVI L,d8 (R153). -/
def execMviL (imm : Byte) (s : State) : Result := .next ((moveImm .l imm s).advance 2)

/-- MVI A,d8 (R153). -/
def execMviA (imm : Byte) (s : State) : Result := .next ((moveImm .a imm s).advance 2)

/-- MVI M,d8 (R154). -/
def execMviM (imm : Byte) (s : State) : Result := .next ((storeImm imm s).advance 2)

/-- LXI B,d16 (R155). -/
def execLxiB (imm : Addr) (s : State) : Result := .next ((loadPairImm .bc imm s).advance 3)

/-- LXI D,d16 (R155). -/
def execLxiD (imm : Addr) (s : State) : Result := .next ((loadPairImm .de imm s).advance 3)

/-- LXI H,d16 (R155). -/
def execLxiH (imm : Addr) (s : State) : Result := .next ((loadPairImm .hl imm s).advance 3)

/-- LXI SP,d16 (R155). -/
def execLxiSP (imm : Addr) (s : State) : Result := .next ((loadPairImm .sp imm s).advance 3)

/-- LDA a16 (R156). -/
def execLda (addr : Addr) (s : State) : Result := .next ((loadAcc addr s).advance 3)

/-- STA a16 (R157). -/
def execSta (addr : Addr) (s : State) : Result := .next ((storeAcc addr s).advance 3)

/-- LHLD a16 (R158). -/
def execLhld (addr : Addr) (s : State) : Result := .next ((loadHL addr s).advance 3)

/-- SHLD a16 (R159). -/
def execShld (addr : Addr) (s : State) : Result := .next ((storeHL addr s).advance 3)

/-- LDAX B (R160). -/
def execLdaxB (s : State) : Result := .next ((loadAccIndirect .bc s).advance 1)

/-- LDAX D (R160). -/
def execLdaxD (s : State) : Result := .next ((loadAccIndirect .de s).advance 1)

/-- STAX B (R161). -/
def execStaxB (s : State) : Result := .next ((storeAccIndirect .bc s).advance 1)

/-- STAX D (R161). -/
def execStaxD (s : State) : Result := .next ((storeAccIndirect .de s).advance 1)

/-- XCHG (R162). -/
def execXchg (s : State) : Result := .next ((exchange s).advance 1)

/-- SPHL (R163). -/
def execSphl (s : State) : Result := .next ((spFromHL s).advance 1)

end Sys2Proof.Machine
end

