-- ==== Sys2Proof/Machine/IoControl.lean ====
section
/-! DEFINITION. The input/output and control instructions (spec 46_io_control.md) and the faulting byte (60_exceptions.md
R280): shared operations, then one meaning for each instruction. No flag is written; PC advances by the length (R123). -/

namespace Sys2Proof.Machine

open Sys2Proof

/-! ### Shared operations -/

/-- `x[A] <- PortRead(port)` (R267). -/
def input (port : Byte) (s : State) : State :=
  (s.recordInput port (s.portRead port)).setReg .a (s.portRead port)

/-- `PortWrite(port, x[A])` (R268). -/
def output (port : Byte) (s : State) : State := s.portWrite port (s.reg .a)

/-- `IE <- 1`, at once (R269, D16). -/
def enableInterrupts (s : State) : State := { s with ie := true }

/-- `IE <- 0` (R270). -/
def disableInterrupts (s : State) : State := { s with ie := false }

/-! ### The meanings

HLT changes PC only and latches nothing (R271, D12): that the step is a Halt is what `stepReport` in Machine/RunLoop.lean
reports. NOP changes PC only (R272). -/

/-- IN p8 (R267). -/
def execInP8 (port : Byte) (s : State) : Result := .next ((input port s).advance 2)

/-- OUT p8 (R268). -/
def execOutP8 (port : Byte) (s : State) : Result := .next ((output port s).advance 2)

/-- EI (R269). -/
def execEi (s : State) : Result := .next ((enableInterrupts s).advance 1)

/-- DI (R270). -/
def execDi (s : State) : Result := .next ((disableInterrupts s).advance 1)

/-- HLT (R271). -/
def execHlt (s : State) : Result := .next (s.advance 1)

/-- NOP (R272). -/
def execNop (s : State) : Result := .next (s.advance 1)

/-- A byte with no handler (R101, R280): the step ends in the Fault. -/
def execNoInstruction (opcode : Byte) (s : State) : Result := raiseFault opcode s

end Sys2Proof.Machine
end

