-- ==== Sys2Proof/Machine/Logical.lean ====
section
/-! DEFINITION. The logical, compare, rotate and carry instructions (spec 43_logical.md): shared operations, then one meaning
for each instruction. PC advances by the length (R123). -/

namespace Sys2Proof.Machine

open Sys2Proof

/-! ### Shared operations -/

/-- The accumulator written with `v`, then `LogicFlags()` (R33). -/
def setLogic (v : Byte) (s : State) : State := (s.setReg .a v).setFlags (logicFlags v)

/-- `x[A] <- x[A] & v; LogicFlags()` (R200 to R202). -/
def anaA (v : Byte) (s : State) : State := setLogic (s.reg .a &&& v) s

/-- `x[A] <- x[A] ^ v; LogicFlags()` (R203 to R205). -/
def xraA (v : Byte) (s : State) : State := setLogic (s.reg .a ^^^ v) s

/-- `x[A] <- x[A] | v; LogicFlags()` (R206 to R208). -/
def oraA (v : Byte) (s : State) : State := setLogic (s.reg .a ||| v) s

/-- `Sub8(x[A], v, 0)` with its result discarded: the flags only (R209 to R211, C2). -/
def cmpA (v : Byte) (s : State) : State := s.setFlags (sub8 (s.reg .a) v false).2

/-- RLC: bit 7 goes to bit 0 and to CY (R212). -/
def rotateLeft (s : State) : State :=
  (s.setReg .a ((s.reg .a <<< 1) ||| flagBit ((s.reg .a).getLsbD 7))).setCarry ((s.reg .a).getLsbD 7)

/-- RRC: bit 0 goes to bit 7 and to CY (R213). -/
def rotateRight (s : State) : State :=
  (s.setReg .a ((s.reg .a >>> 1) ||| (flagBit ((s.reg .a).getLsbD 0) <<< 7))).setCarry ((s.reg .a).getLsbD 0)

/-- RAL: the old CY goes to bit 0, bit 7 to CY (R214). -/
def rotateLeftCarry (s : State) : State :=
  (s.setReg .a ((s.reg .a <<< 1) ||| flagBit s.flags.cy)).setCarry ((s.reg .a).getLsbD 7)

/-- RAR: the old CY goes to bit 7, bit 0 to CY (R215). -/
def rotateRightCarry (s : State) : State :=
  (s.setReg .a ((s.reg .a >>> 1) ||| (flagBit s.flags.cy <<< 7))).setCarry ((s.reg .a).getLsbD 0)

/-- CMA: the accumulator complemented, no flag (R216). -/
def complementA (s : State) : State := s.setReg .a (~~~(s.reg .a))

/-- STC (R217). -/
def setCarry (s : State) : State := s.setCarry true

/-- CMC (R218). -/
def complementCarry (s : State) : State := s.setCarry (!s.flags.cy)

/-! ### The meanings -/

/-- ANA B (R200). -/
def execAnaB (s : State) : Result := .next ((anaA (readOperand (.reg .b) s) s).advance 1)

/-- ANA C (R200). -/
def execAnaC (s : State) : Result := .next ((anaA (readOperand (.reg .c) s) s).advance 1)

/-- ANA D (R200). -/
def execAnaD (s : State) : Result := .next ((anaA (readOperand (.reg .d) s) s).advance 1)

/-- ANA E (R200). -/
def execAnaE (s : State) : Result := .next ((anaA (readOperand (.reg .e) s) s).advance 1)

/-- ANA H (R200). -/
def execAnaH (s : State) : Result := .next ((anaA (readOperand (.reg .h) s) s).advance 1)

/-- ANA L (R200). -/
def execAnaL (s : State) : Result := .next ((anaA (readOperand (.reg .l) s) s).advance 1)

/-- ANA A (R200). -/
def execAnaA (s : State) : Result := .next ((anaA (readOperand (.reg .a) s) s).advance 1)

/-- ANA M (R201). -/
def execAnaM (s : State) : Result := .next ((anaA (readOperand .m s) s).advance 1)

/-- ANI d8 (R202). -/
def execAni (imm : Byte) (s : State) : Result := .next ((anaA imm s).advance 2)

/-- XRA B (R203). -/
def execXraB (s : State) : Result := .next ((xraA (readOperand (.reg .b) s) s).advance 1)

/-- XRA C (R203). -/
def execXraC (s : State) : Result := .next ((xraA (readOperand (.reg .c) s) s).advance 1)

/-- XRA D (R203). -/
def execXraD (s : State) : Result := .next ((xraA (readOperand (.reg .d) s) s).advance 1)

/-- XRA E (R203). -/
def execXraE (s : State) : Result := .next ((xraA (readOperand (.reg .e) s) s).advance 1)

/-- XRA H (R203). -/
def execXraH (s : State) : Result := .next ((xraA (readOperand (.reg .h) s) s).advance 1)

/-- XRA L (R203). -/
def execXraL (s : State) : Result := .next ((xraA (readOperand (.reg .l) s) s).advance 1)

/-- XRA A (R203). -/
def execXraA (s : State) : Result := .next ((xraA (readOperand (.reg .a) s) s).advance 1)

/-- XRA M (R204). -/
def execXraM (s : State) : Result := .next ((xraA (readOperand .m s) s).advance 1)

/-- XRI d8 (R205). -/
def execXri (imm : Byte) (s : State) : Result := .next ((xraA imm s).advance 2)

/-- ORA B (R206). -/
def execOraB (s : State) : Result := .next ((oraA (readOperand (.reg .b) s) s).advance 1)

/-- ORA C (R206). -/
def execOraC (s : State) : Result := .next ((oraA (readOperand (.reg .c) s) s).advance 1)

/-- ORA D (R206). -/
def execOraD (s : State) : Result := .next ((oraA (readOperand (.reg .d) s) s).advance 1)

/-- ORA E (R206). -/
def execOraE (s : State) : Result := .next ((oraA (readOperand (.reg .e) s) s).advance 1)

/-- ORA H (R206). -/
def execOraH (s : State) : Result := .next ((oraA (readOperand (.reg .h) s) s).advance 1)

/-- ORA L (R206). -/
def execOraL (s : State) : Result := .next ((oraA (readOperand (.reg .l) s) s).advance 1)

/-- ORA A (R206). -/
def execOraA (s : State) : Result := .next ((oraA (readOperand (.reg .a) s) s).advance 1)

/-- ORA M (R207). -/
def execOraM (s : State) : Result := .next ((oraA (readOperand .m s) s).advance 1)

/-- ORI d8 (R208). -/
def execOri (imm : Byte) (s : State) : Result := .next ((oraA imm s).advance 2)

/-- CMP B (R209). -/
def execCmpB (s : State) : Result := .next ((cmpA (readOperand (.reg .b) s) s).advance 1)

/-- CMP C (R209). -/
def execCmpC (s : State) : Result := .next ((cmpA (readOperand (.reg .c) s) s).advance 1)

/-- CMP D (R209). -/
def execCmpD (s : State) : Result := .next ((cmpA (readOperand (.reg .d) s) s).advance 1)

/-- CMP E (R209). -/
def execCmpE (s : State) : Result := .next ((cmpA (readOperand (.reg .e) s) s).advance 1)

/-- CMP H (R209). -/
def execCmpH (s : State) : Result := .next ((cmpA (readOperand (.reg .h) s) s).advance 1)

/-- CMP L (R209). -/
def execCmpL (s : State) : Result := .next ((cmpA (readOperand (.reg .l) s) s).advance 1)

/-- CMP A (R209). -/
def execCmpA (s : State) : Result := .next ((cmpA (readOperand (.reg .a) s) s).advance 1)

/-- CMP M (R210). -/
def execCmpM (s : State) : Result := .next ((cmpA (readOperand .m s) s).advance 1)

/-- CPI d8 (R211). -/
def execCpi (imm : Byte) (s : State) : Result := .next ((cmpA imm s).advance 2)

/-- RLC (R212). -/
def execRlc (s : State) : Result := .next ((rotateLeft s).advance 1)

/-- RRC (R213). -/
def execRrc (s : State) : Result := .next ((rotateRight s).advance 1)

/-- RAL (R214). -/
def execRal (s : State) : Result := .next ((rotateLeftCarry s).advance 1)

/-- RAR (R215). -/
def execRar (s : State) : Result := .next ((rotateRightCarry s).advance 1)

/-- CMA (R216). -/
def execCma (s : State) : Result := .next ((complementA s).advance 1)

/-- STC (R217). -/
def execStc (s : State) : Result := .next ((setCarry s).advance 1)

/-- CMC (R218). -/
def execCmc (s : State) : Result := .next ((complementCarry s).advance 1)

end Sys2Proof.Machine
end

