-- ==== Sys2Proof/Machine/Stack.lean ====
section
/-! DEFINITION. The stack instructions (spec 45_stack.md): shared operations, then one meaning for each instruction. PC
advances by 1 (R123). -/

namespace Sys2Proof.Machine

open Sys2Proof

/-! ### Shared operations -/

/-- `Push16(rp[p])` (R250). -/
def pushPair (p : StackPair) (s : State) : State := s.push16 (s.pair (stackPair p))

/-- The processor status word: A high, the flag byte low (R94, R251). -/
def State.psw (s : State) : Addr := joinBytes (packFlags s.flags) (s.reg .a)

/-- `Push16((x[A] << 8) | PackFlags())` (R251). -/
def pushStatus (s : State) : State := s.push16 s.psw

/-- `rp[p] <- Pop16()` (R252). -/
def popPair (p : StackPair) (s : State) : State := s.pop16.setPair (stackPair p) s.top16

/-- `w = Pop16(); UnpackFlags(w[7:0]); x[A] <- w[15:8]` (R253). -/
def popStatus (s : State) : State := (s.pop16.setFlags (unpackFlags (lowByte s.top16))).setReg .a (highByte s.top16)

/-- L exchanges with the byte at `sp`, H with the byte at `sp + 1`; SP is unchanged (R254). -/
def exchangeStack (s : State) : State := (s.setWord s.sp s.hl).setPair .hl (s.wordAt s.sp)

/-! ### The meanings -/

/-- PUSH B (R250). -/
def execPushB (s : State) : Result := .next ((pushPair .bc s).advance 1)

/-- PUSH D (R250). -/
def execPushD (s : State) : Result := .next ((pushPair .de s).advance 1)

/-- PUSH H (R250). -/
def execPushH (s : State) : Result := .next ((pushPair .hl s).advance 1)

/-- PUSH PSW (R251). -/
def execPushPsw (s : State) : Result := .next ((pushStatus s).advance 1)

/-- POP B (R252). -/
def execPopB (s : State) : Result := .next ((popPair .bc s).advance 1)

/-- POP D (R252). -/
def execPopD (s : State) : Result := .next ((popPair .de s).advance 1)

/-- POP H (R252). -/
def execPopH (s : State) : Result := .next ((popPair .hl s).advance 1)

/-- POP PSW (R253). -/
def execPopPsw (s : State) : Result := .next ((popStatus s).advance 1)

/-- XTHL (R254). -/
def execXthl (s : State) : Result := .next ((exchangeStack s).advance 1)

end Sys2Proof.Machine
end

