-- ==== Sys2Proof/Machine/Step.lean ====
section
/-! DEFINITION. One step of the machine (spec 40_step_and_run.md R120): the instruction at PC is fetched, decoded and executed. -/

namespace Sys2Proof.Machine

open Sys2Proof

/-- `step` (R120): exactly one instruction, or the Fault. It adds nothing around `exec`: a meaning moves PC itself. What `step`
reports beside the state (cycles, Halt) is `stepReport` in Machine/RunLoop.lean. -/
def step (s : State) : Host.Outcome State Fault Refusal := exec s.fetch s

/-- The state with an instruction, given as the opcode table numbers its bits, stored at PC, where the next step fetches: the
low `nbits` bits of `w`, the first byte lowest, zeros above up to three bytes. It stands for the load of a program from
outside the machine (R312, log entry 10). -/
def State.withFetchWord (s : State) (nbits w : Nat) : State :=
  ((s.setByte s.pc (tableByte nbits w 0)).setByte (s.pc + 1) (tableByte nbits w 1)).setByte (s.pc + 2) (tableByte nbits w 2)

end Sys2Proof.Machine
end

