-- ==== Sys2Proof/Machine/Cycles.lean ====
section
/-! DEFINITION. The cycle table `CYC` (spec 40_step_and_run.md R124 to R126), at its default values (D14, log entry 4). No
register, flag, memory byte or port operation depends on it (R318). -/

namespace Sys2Proof.Machine

open Sys2Proof

/-- The cycles of a register form or of the form with M. -/
def operandCycles (o : Operand8) (register memory : Nat) : Nat :=
  match o with
  | .reg _ => register
  | .m => memory

/-- The cycles of a step, by the shape of its instruction and the flags before it (R124, R125). A faulting byte has no cost. -/
def cyclesOfForm (fm : Form) (f : Flags) : Option Nat :=
  match fm with
  | .movRR _ _ => some 5
  | .movRM _ => some 7
  | .movMR _ => some 7
  | .mviR _ _ => some 7
  | .mviM _ => some 10
  | .lxi _ _ => some 10
  | .lda _ => some 13
  | .sta _ => some 13
  | .lhld _ => some 16
  | .shld _ => some 16
  | .ldax _ => some 7
  | .stax _ => some 7
  | .xchg => some 4
  | .sphl => some 5
  | .alu _ o => some (operandCycles o 4 7)
  | .aluImm _ _ => some 7
  | .inr o => some (operandCycles o 5 10)
  | .dcr o => some (operandCycles o 5 10)
  | .inx _ => some 5
  | .dcx _ => some 5
  | .dad _ => some 10
  | .rlc => some 4
  | .rrc => some 4
  | .ral => some 4
  | .rar => some 4
  | .cma => some 4
  | .stc => some 4
  | .cmc => some 4
  | .jmp _ => some 10
  | .jcc cnd _ => some (if condHolds cnd f then 10 else 10)
  | .call _ => some 17
  | .ccc cnd _ => some (if condHolds cnd f then 17 else 11)
  | .ret => some 10
  | .rcc cnd => some (if condHolds cnd f then 11 else 5)
  | .rst _ => some 11
  | .pchl => some 5
  | .push _ => some 11
  | .pushPsw => some 11
  | .pop _ => some 10
  | .popPsw => some 10
  | .xthl => some 18
  | .inPort _ => some 10
  | .outPort _ => some 10
  | .ei => some 4
  | .di => some 4
  | .hlt => some 7
  | .nop => some 4
  | .illegal _ => none

/-- `cycles` of an instruction executed with the flags `f` (R124); none for a faulting byte. -/
def cycles (i : Instr) (f : Flags) : Option Nat := cyclesOfForm i.form f

/-- `Cost(state)`: the cycles the next step would report, without executing it; none if it would fault (R126). -/
def cost (s : State) : Option Nat := cycles s.fetch s.flags

end Sys2Proof.Machine
end

