-- ==== Sys2Proof/Machine/RunLoop.lean ====
section
/-! DEFINITION. What a step reports to its caller (spec 40_step_and_run.md R121) and the run loop (R130 to R134). -/

namespace Sys2Proof.Machine

open Sys2Proof

/-- The outcome of a step as the spec gives it (R121), with the state after it. -/
inductive StepReport where
  /-- `Normal{cycles}`. -/
  | normal (cycles : Nat) (s : State)
  /-- `Halt{cycles}`: the instruction was HLT. Nothing is latched in the state (R271). -/
  | halt (cycles : Nat) (s : State)
  /-- `Fault{opcode, pc}`: nothing changed (R127). -/
  | fault (opcode : Byte) (pc : Addr)
  /-- The model has no meaning for the instruction; no instruction is refused now. -/
  | refused (r : Refusal)
  deriving DecidableEq, Repr

/-- `step` with the report of R121: the state is that of `step`, the cycles are those of the instruction (R124). -/
def stepReport (s : State) : StepReport :=
  match step s with
  | .next t =>
    if s.fetch = .hlt then .halt ((cost s).getD 0) t else .normal ((cost s).getD 0) t
  | .fault (.unimplementedOrIllegalOpcode opcode pc) => .fault opcode pc
  | .refused r => .refused r

/-- Why a run ended (R131). -/
inductive Termination where
  | completed
  | halted
  | faulted (opcode : Byte) (pc : Addr)
  deriving DecidableEq, Repr

/-- What a run returns: the reason, the total of cycles consumed (R130), and the state it leaves. -/
structure RunResult where
  reason : Termination
  total : Nat
  state : State
  deriving DecidableEq, Repr

/-- The value taken for the parameter `BUDGET_POLICY` (R9, D13): the spec's default (DESIGN CHOICE to fix it, log entry 5). -/
def budgetPolicy : BudgetPolicy := .checkBeforeExecute

/-- Whether the run stops before an instruction that would bring the total to `total` (R130); no budget is unbounded. -/
def stopsBefore (policy : BudgetPolicy) (budget : Option Nat) (total : Nat) : Bool :=
  match policy, budget with
  | .checkBeforeExecute, some b => decide (b < total)
  | _, _ => false

/-- Whether the run stops after an instruction that brought the total to `total` (D13, the alternative policy). -/
def stopsAfter (policy : BudgetPolicy) (budget : Option Nat) (total : Nat) : Bool :=
  match policy, budget with
  | .checkAfterExecute, some b => decide (b ≤ total)
  | _, _ => false

/-- The loop of R130 from a running total, for at most `fuel` instructions; none when it has not ended by then. The fault is
looked for before the budget (R132). -/
def runLoop (policy : BudgetPolicy) (budget : Option Nat) : Nat → Nat → State → Option RunResult
  | 0, _, _ => none
  | fuel + 1, total, s =>
    match cost s with
    | none => some { reason := .faulted (s.byteAt s.pc) s.pc, total := total, state := s }
    | some c =>
      if stopsBefore policy budget (total + c) then some { reason := .completed, total := total, state := s }
      else
        match stepReport s with
        | .normal c t =>
          if stopsAfter policy budget (total + c) then some { reason := .completed, total := total + c, state := t }
          else runLoop policy budget fuel (total + c) t
        | .halt c t => some { reason := .halted, total := total + c, state := t }
        | .fault opcode pc => some { reason := .faulted opcode pc, total := total, state := s }
        | .refused _ => none

/-- `run(budget)` for a budget of cycles (R130). Every instruction costs at least one cycle, so `budget + 1` instructions are
enough to end it. -/
def run (budget : Nat) (s : State) : Option RunResult := runLoop budgetPolicy (some budget) (budget + 1) 0 s

/-- `run` without a budget (R130, R132), looked at for at most `fuel` instructions; none when it has not ended by then. -/
def runUnbounded (fuel : Nat) (s : State) : Option RunResult := runLoop budgetPolicy none fuel 0 s

end Sys2Proof.Machine
end

