-- ==== Sys2Proof/Machine/HostInterface.lean ====
section
/-! DEFINITION. What the host may do to the block between instructions (spec 60_exceptions.md R292, 70_reset_and_hazards.md
R310 to R313). Reading the state has no effect; writing a register is no move (D24). `raise` is in Machine/Ops.lean, `step` in
Machine/Step.lean, `run` in Machine/RunLoop.lean. -/

namespace Sys2Proof.Machine

open Sys2Proof

/-- `create`, the reset (R310, D18). -/
def create : State := State.reset

/-- What `load_image` answers (R7, R312, R313). -/
inductive LoadResult where
  | ok (s : State)
  | imageTooLargeForAddressSpace
  deriving DecidableEq, Repr

/-- `MemWrite(a + i, 1, bytes[i])` for every `i`, in rising order (R312). -/
def copyImage : List Byte → Addr → State → State
  | [], _, s => s
  | v :: image, a, s => copyImage image (a + 1) (s.setByte a v)

/-- `load_image(image, offset)` (R312); refused, with nothing copied, when it does not fit (R313, C3). -/
def loadImage (image : List Byte) (offset : Addr) (s : State) : LoadResult :=
  if Config.memSize < offset.toNat + image.length then .imageTooLargeForAddressSpace
  else .ok (copyImage image offset s)

/-- "patch memory and resume": the host writes one byte of memory (R292). -/
def patchMemory (a : Addr) (v : Byte) (s : State) : State := s.setByte a v

/-- The host's moves that can change a state (R292). -/
inductive HostMove where
  | create
  | step
  | run (budget : Nat)
  | raise (n : RstVector)
  | loadImage (image : List Byte) (offset : Addr)
  | patchMemory (a : Addr) (v : Byte)
  deriving DecidableEq, Repr

/-- The state after a move. `create` forgets the state before it (R310, D18). A Fault and a refused load leave the state as it was (R127, R313). -/
def applyMove (m : HostMove) (s : State) : State :=
  match m with
  | .create => Sys2Proof.Machine.create
  | .step =>
    match Sys2Proof.Machine.step s with
    | .next t => t
    | .fault _ => s
    | .refused _ => s
  | .run budget =>
    match Sys2Proof.Machine.run budget s with
    | some r => r.state
    | none => s
  | .raise n => Sys2Proof.Machine.raise n s
  | .loadImage image offset =>
    match Sys2Proof.Machine.loadImage image offset s with
    | .ok t => t
    | .imageTooLargeForAddressSpace => s
  | .patchMemory a v => Sys2Proof.Machine.patchMemory a v s

end Sys2Proof.Machine
end

