-- ==== Sys2Proof/Safety.lean ====
section
/-! DEFINITION. What counts as a good state and as a safe run, in the terms claims use. -/

namespace Sys2Proof.Machine

open Sys2Proof

/-- The invariant of the state (spec 10_state.md R42): memory is in its canonical form, so every entry is a byte of the 65536
and each address has one. The other ranges of R42 hold by the types of the fields. -/
def State.Inv (s : State) : Prop := Memory.wf s.mem = true

/-- A state a host can bring about: created, then any moves of R292. -/
inductive Reachable : State → Prop where
  | create : Reachable create
  | move (m : HostMove) (s : State) (h : Reachable s) : Reachable (applyMove m s)

/-- The next step does not fault: what a claim about a program should prove (60_exceptions.md R283). -/
def NoFault (s : State) : Prop := ∃ t, step s = .next t

end Sys2Proof.Machine
end

