-- ==== Sys2Proof/Certificates/Slice0/Obligations.lean ====
section
/-! DEFINITION. The statements about the model. Each docstring names what of the spec it formalises; where a clause rests on a
decision of the spec or of the model, it says so. An instruction is taken by its shape (`Instr.form`): `i.form = .movRR dst src`
is true of the MOV r1,r2 with those registers, and so on (Decode.lean lists the shape of each of the 244 constructors). -/

namespace Sys2Proof.Claims

open Sys2Proof Sys2Proof.Machine

/-! ### The words of the frames -/

/-- Every register outside `written` keeps its value, every byte of memory outside the addresses `stored` reads as before, and
IE and the record of port operations are unchanged. -/
def Kept (s t : State) (written : List Reg) (stored : List Addr) : Prop :=
  (∀ r, r ∉ written → t.reg r = s.reg r) ∧ (∀ a : Addr, a ∉ stored → t.byteAt a = s.byteAt a) ∧
    t.ie = s.ie ∧ t.io = s.io

/-- The registers of a pair; none for SP (R22). -/
def regsOf : Pair → List Reg
  | .bc => [.b, .c]
  | .de => [.d, .e]
  | .hl => [.h, .l]
  | .sp => []

/-- The two addresses a push stores to (R66): the same expressions as `State.push16`. -/
def pushed (s : State) : List Addr := [s.sp - 1, s.sp - 2]

/-! ### The operands of the ALU forms -/

/-- The operand of a register-or-memory form: register `r`, or the byte at the address in HL (R170). -/
def source (o : Operand8) (s : State) : Byte :=
  match o with
  | .reg r => s.reg r
  | .m => s.byteAt (s.pair .hl)

/-- The operation and the operand of an ALU instruction: register, memory or immediate form (R98, R170). -/
def aluOperand (fm : Form) (s : State) : Option (AluOp × Byte) :=
  match fm with
  | .alu op o => some (op, source o s)
  | .aluImm op imm => some (op, imm)
  | _ => none

/-- Z, S and P of `f` are those of the byte `v` (R29, R30). -/
def ZspOf (v : Byte) (f : Flags) : Prop :=
  (f.z = true ↔ v = 0) ∧ (f.s = true ↔ 128 ≤ v.toNat) ∧
    (f.p = true ↔ ((List.range 8).filter (fun k => v.getLsbD k)).length % 2 = 0)

/-- The flags of a subtraction `a - v - bin` whose result is `r` (R32): CY is the borrow; AC is the borrow of the low nibble, or
its complement, as the parameter `AC_SUB` says (D8, log entry 3). -/
def SubtractFlags (a v : Byte) (bin : Nat) (r : Byte) (f : Flags) : Prop :=
  ZspOf r f ∧ (f.cy = true ↔ a.toNat < v.toNat + bin) ∧
    (match acSub with
      | .borrow => f.ac = true ↔ a.toNat % 16 < v.toNat % 16 + bin
      | .carryOfComplement => f.ac = true ↔ v.toNat % 16 + bin ≤ a.toNat % 16)

/-! ### Which instruction does what, for the rules over all instructions -/

/-- The control transfers (R123): the instructions that set the final PC themselves. -/
def transfers (fm : Form) : Bool :=
  match fm with
  | .jmp _ | .jcc _ _ | .call _ | .ccc _ _ | .ret | .rcc _ | .rst _ | .pchl => true
  | .movRR _ _ | .movRM _ | .movMR _ | .mviR _ _ | .mviM _ | .lxi _ _ | .lda _ | .sta _ | .lhld _ | .shld _ | .ldax _
  | .stax _ | .xchg | .sphl | .alu _ _ | .aluImm _ _ | .inr _ | .dcr _ | .inx _ | .dcx _ | .dad _ | .rlc | .rrc | .ral
  | .rar | .cma | .stc | .cmc | .push _ | .pushPsw | .pop _ | .popPsw | .xthl | .inPort _ | .outPort _ | .ei | .di
  | .hlt | .nop | .illegal _ => false

/-- PC advances by the length of the instruction, which it has, modulo 65536 (R26, R90; the wrap is D19). -/
def AdvancesByLength (i : Instr) (s t : State) : Prop :=
  ∃ n, i.length = some n ∧ t.pc.toNat = (s.pc.toNat + n) % 65536

/-- The names of the flags. -/
inductive Flag where
  | z | s | p | cy | ac
  deriving DecidableEq, Repr

/-- The flag of that name. -/
def flag (f : Flags) : Flag → Bool
  | .z => f.z
  | .s => f.s
  | .p => f.p
  | .cy => f.cy
  | .ac => f.ac

/-- The flags an instruction writes: the table of R34. -/
def flagsWritten (fm : Form) : List Flag :=
  match fm with
  | .alu _ _ | .aluImm _ _ | .popPsw => [.z, .s, .p, .cy, .ac]
  | .inr _ | .dcr _ => [.z, .s, .p, .ac]
  | .dad _ | .rlc | .rrc | .ral | .rar | .stc | .cmc => [.cy]
  | _ => []

/-- The address an INR or DCR of that operand stores to: none for a register. -/
def operandStores (o : Operand8) (s : State) : List Addr :=
  match o with
  | .reg _ => []
  | .m => [s.pair .hl]

/-- The addresses an instruction stores to in the state `s`: the writes of the table of R69. -/
def storesTo (fm : Form) (s : State) : List Addr :=
  match fm with
  | .movMR _ | .mviM _ => [s.pair .hl]
  | .inr o | .dcr o => operandStores o s
  | .stax p => [s.indexAddr p]
  | .sta addr => [addr]
  | .shld addr => [addr, addr + 1]
  | .push _ | .pushPsw | .call _ | .rst _ => pushed s
  | .ccc cnd _ => if condHolds cnd s.flags then pushed s else []
  | .xthl => [s.sp, s.sp + 1]
  | .movRR _ _ | .movRM _ | .mviR _ _ | .lxi _ _ | .lda _ | .lhld _ | .ldax _ | .xchg | .sphl | .alu _ _ | .aluImm _ _
  | .inx _ | .dcx _ | .dad _ | .rlc | .rrc | .ral | .rar | .cma | .stc | .cmc | .jmp _ | .jcc _ _ | .ret | .rcc _
  | .pchl | .pop _ | .popPsw | .inPort _ | .outPort _ | .ei | .di | .hlt | .nop | .illegal _ => []

/-- SP after an instruction: the writers of R27, and no other. -/
def spAfter (fm : Form) (s : State) : Addr :=
  match fm with
  | .lxi p imm => if p = .sp then imm else s.sp
  | .inx p => if p = .sp then s.sp + 1 else s.sp
  | .dcx p => if p = .sp then s.sp - 1 else s.sp
  | .sphl => s.pair .hl
  | .push _ | .pushPsw | .call _ | .rst _ => s.sp - 2
  | .pop _ | .popPsw | .ret => s.sp + 2
  | .ccc cnd _ => if condHolds cnd s.flags then s.sp - 2 else s.sp
  | .rcc cnd => if condHolds cnd s.flags then s.sp + 2 else s.sp
  | .movRR _ _ | .movRM _ | .movMR _ | .mviR _ _ | .mviM _ | .lda _ | .sta _ | .lhld _ | .shld _ | .ldax _ | .stax _
  | .xchg | .alu _ _ | .aluImm _ _ | .inr _ | .dcr _ | .dad _ | .rlc | .rrc | .ral | .rar | .cma | .stc | .cmc | .jmp _
  | .jcc _ _ | .pchl | .xthl | .inPort _ | .outPort _ | .ei | .di | .hlt | .nop | .illegal _ => s.sp

/-- The state with its Auxiliary-Carry replaced. -/
def withAc (s : State) (x : Bool) : State := { s with flags := { s.flags with ac := x } }

/-- Two answers of an instruction that agree in everything but the value of Auxiliary-Carry. -/
def SameButAc (x y : Result) : Prop :=
  match x, y with
  | .next t, .next u => withAc t false = withAc u false
  | .fault p, .fault q => p = q
  | .refused p, .refused q => p = q
  | _, _ => False

/-- The bytes of a list stand in memory from address `a` on, wrapping at the top (R64). -/
def BytesAt (s : State) : Addr → List Byte → Prop
  | _, [] => True
  | a, v :: rest => s.byteAt a = v ∧ BytesAt s (a + 1) rest

/-- The state with the bytes of a list stored from address `a` on, wrapping at the top. -/
def placeBytes (s : State) : Addr → List Byte → State
  | _, [] => s
  | a, v :: rest => placeBytes (s.setByte a v) (a + 1) rest

/-- `n` times RAL, each starting from the state the one before left. -/
def ralTimes : Nat → State → Option State
  | 0, s => some s
  | n + 1, s =>
    match exec .ral s with
    | .next t => ralTimes n t
    | .fault _ => none
    | .refused _ => none

end Sys2Proof.Claims

open Sys2Proof Sys2Proof.Machine Sys2Proof.Claims

/-! ## Encoding (30_encoding.md) -/

/-- Decoding the bytes of any well-formed instruction gives it back, with every operand, and leaves the bytes after it: the map
of R99 and the formats of R91, R93, R94, R97, R98 agree. The map is general knowledge the spec supplies (D1). -/
def Obligations.DecodeOfEncodeIsTheInstruction : Prop :=
  ∀ (i : Instr) (rest : List Byte), i.wf = true → decode (encode i ++ rest) = .ok i rest

/-- The other direction: whatever bytes decode to an instruction are its encoding, and it is well formed; so no two byte
sequences mean one instruction. -/
def Obligations.EncodeOfDecodeIsTheBytes : Prop :=
  ∀ (bytes rest : List Byte) (i : Instr), decode bytes = .ok i rest → encode i ++ rest = bytes ∧ i.wf = true

/-- Twelve words and the instructions they stand for. The first six hold the opcode bytes the document itself gives (R106; 0xFF is
RST 7, C5). The other six (MOV A,B; ANA C; LXI H; PUSH PSW; IN; the byte 0x27) are no words of the document: five are written
out from the formats of R91, which the spec supplies from general knowledge (D1, log entry 6), and that 0x27 is no instruction is
the decision D3 (log entry 6). -/
def Obligations.WordsOfTheSpecDecode : Prop :=
  decode [0xC2, 0x34, 0x12] = .ok (.jnz 0x1234) [] ∧ decode [0x3E, 0x05] = .ok (.mviA 5) [] ∧
  decode [0x06, 0x02] = .ok (.mviB 2) [] ∧ decode [0x80] = .ok .addB [] ∧ decode [0x76] = .ok .hlt [] ∧
  decode [0xFF] = .ok .rst7 [] ∧ decode [0b01111000] = .ok .movAB [] ∧ decode [0b10100001] = .ok .anaC [] ∧
  decode [0b00100001, 0x34, 0x12] = .ok (.lxiH 0x1234) [] ∧ decode [0b11110101] = .ok .pushPsw [] ∧
  decode [0b11011011, 0x01] = .ok (.inP8 1) [] ∧ decode [0x27] = .ok (.noInstruction 0x27) []

/-- The length of an instruction is a function of its opcode byte alone, is 1, 2 or 3, and is the number of bytes its encoding
has and decoding consumes (R90); exactly the bytes with no handler have no length (R100; which bytes those are is D2 and D3, and
that each of them decodes alone to `no_instruction` is the model's, log entry 9). -/
def Obligations.LengthIsAFunctionOfTheOpcodeByte : Prop :=
  (∀ op b1 b2 : Byte, (decodeOp op b1 b2).length = opcodeLength op) ∧
  (∀ op : Byte, op ∉ illegalBytes → opcodeLength op = some 1 ∨ opcodeLength op = some 2 ∨ opcodeLength op = some 3) ∧
  (∀ op : Byte, op ∈ illegalBytes → opcodeLength op = none) ∧
  (∀ (bytes rest : List Byte) (i : Instr) (n : Nat), decode bytes = .ok i rest → i.length = some n →
    bytes.length = n + rest.length ∧ (encode i).length = n)

/-- Of the 256 opcode bytes exactly the thirteen of R101 have no handler, and 243 are instructions (R99, R102; that these are the
thirteen is the spec's decision, D2 and D3). -/
def Obligations.ThirteenBytesHaveNoHandler : Prop :=
  (∀ op b1 b2 : Byte, decodeOp op b1 b2 = .noInstruction op ↔
    op ∈ ([0x08, 0x10, 0x18, 0x20, 0x28, 0x30, 0x38, 0xCB, 0xD9, 0xDD, 0xED, 0xFD, 0x27] : List Byte)) ∧
  (∀ op op' b1 b2 : Byte, decodeOp op b1 b2 = .noInstruction op' → op' = op) ∧
  ((List.range 256).filter (fun n => illegalBytes.contains (BitVec.ofNat 8 n))).length = 13

/-! ## The step (40_step_and_run.md, 60_exceptions.md) -/

/-- A step runs the instruction that the bytes at PC, PC + 1 and PC + 2 decode to, and adds nothing around its meaning: a meaning
moves PC itself (R120). -/
def Obligations.StepRunsTheDecodedInstruction : Prop :=
  ∀ (s : State) (i : Instr) (rest : List Byte),
    decode [s.byteAt s.pc, s.byteAt (s.pc + 1), s.byteAt (s.pc + 2)] = .ok i rest → step s = exec i s

/-- An instruction whose encoding stands in memory at PC, wherever that is, is what the next step runs; so it is after a store
put it there (R74). The bytes that stand for an instruction are those of the formats of R91 (D1, log entry 6), and an encoding
that begins at 0xFFFE or 0xFFFF goes on at 0x0000 (D19, log entry 7). -/
def Obligations.StoredInstructionIsTheNextFetched : Prop :=
  (∀ (s : State) (i : Instr), i.wf = true → BytesAt s s.pc (encode i) → step s = exec i s) ∧
  (∀ (s : State) (i : Instr), i.wf = true →
    step (placeBytes s s.pc (encode i)) = exec i (placeBytes s s.pc (encode i)))

/-- The Fault (R280). `no_instruction` stops on every path with the byte and PC; a byte with no handler at PC ends the step with that
byte and its address, and as a move of the host it changes nothing. -/
def Obligations.ByteWithNoHandlerFaults : Prop :=
  (∀ (op : Byte) (s : State), exec (.noInstruction op) s = .fault (.unimplementedOrIllegalOpcode op s.pc)) ∧
  (∀ s : State, s.byteAt s.pc ∈ illegalBytes →
    step s = .fault (.unimplementedOrIllegalOpcode (s.byteAt s.pc) s.pc) ∧ applyMove .step s = s)

/-- Nothing else faults, and nothing is refused: a step answers a next state exactly when the byte at PC has a handler; every
instruction but `no_instruction` completes in every state. -/
def Obligations.NothingElseFaults : Prop :=
  (∀ s : State, (∃ t, step s = .next t) ↔ s.byteAt s.pc ∉ illegalBytes) ∧
  (∀ (s : State) (r : Refusal), step s ≠ .refused r) ∧
  (∀ (i : Instr) (s : State), (∀ op, i ≠ .noInstruction op) → ∃ t, exec i s = .next t)

/-! ## Registers, memory, the stack (10_state.md, 20_memory.md) -/

/-- A register write stores the value in that register and changes nothing else (R21). The pairs are views with the first-named
register high (R22), and a pair write is the write of its two registers and of nothing else (R23). -/
def Obligations.RegisterAndPairWrites : Prop :=
  (∀ (s : State) (r : Reg) (v : Byte),
    (s.setReg r v).reg r = v ∧ (∀ q, q ≠ r → (s.setReg r v).reg q = s.reg q) ∧
    (s.setReg r v).sp = s.sp ∧ (s.setReg r v).pc = s.pc ∧ (s.setReg r v).flags = s.flags ∧
    (s.setReg r v).ie = s.ie ∧ (s.setReg r v).mem = s.mem ∧ (s.setReg r v).io = s.io) ∧
  (∀ s : State, (s.pair .bc).toNat = 256 * (s.reg .b).toNat + (s.reg .c).toNat ∧
    (s.pair .de).toNat = 256 * (s.reg .d).toNat + (s.reg .e).toNat ∧
    (s.pair .hl).toNat = 256 * (s.reg .h).toNat + (s.reg .l).toNat) ∧
  (∀ (s : State) (p : Pair) (v : Addr), p ≠ .sp →
    (s.setPair p v).pair p = v ∧ (∀ q, q ∉ regsOf p → (s.setPair p v).reg q = s.reg q) ∧
    (s.setPair p v).sp = s.sp ∧ (s.setPair p v).pc = s.pc ∧ (s.setPair p v).flags = s.flags ∧
    (s.setPair p v).ie = s.ie ∧ (s.setPair p v).mem = s.mem ∧ (s.setPair p v).io = s.io)

/-- A byte write is seen by every later read at that address and changes no other byte and no register; a read changes nothing
(it is a function of the state). -/
def Obligations.MemoryReadAfterWrite : Prop :=
  ∀ (s : State) (a : Addr) (v : Byte),
    (s.setByte a v).byteAt a = v ∧ (∀ b, b ≠ a → (s.setByte a v).byteAt b = s.byteAt b) ∧
    (s.setByte a v).regs = s.regs ∧ (s.setByte a v).sp = s.sp ∧ (s.setByte a v).pc = s.pc ∧
    (s.setByte a v).flags = s.flags ∧ (s.setByte a v).ie = s.ie ∧ (s.setByte a v).io = s.io

/-- Two-byte accesses are little-endian, with the second address taken modulo 65536 (R63, D11, D19), and a two-byte read after a
two-byte write gives the word. -/
def Obligations.WordsAreLittleEndian : Prop :=
  ∀ (s : State) (a v : Addr),
    (s.wordAt a).toNat = (s.byteAt a).toNat + 256 * (s.byteAt (a + 1)).toNat ∧
    ((s.setWord a v).byteAt a).toNat = v.toNat % 256 ∧ ((s.setWord a v).byteAt (a + 1)).toNat = v.toNat / 256 ∧
    (s.setWord a v).wordAt a = v ∧
    (∀ b, b ≠ a → b ≠ a + 1 → (s.setWord a v).byteAt b = s.byteAt b)

/-- A push puts the high byte at SP - 1 and the low byte at SP - 2 and lowers SP by 2, and changes nothing else (R66: the
direction and the byte order are the spec's decision D6). -/
def Obligations.PushStoresHighByteAbove : Prop :=
  ∀ (s : State) (v : Addr),
    ((s.push16 v).byteAt (s.sp - 1)).toNat = v.toNat / 256 ∧ ((s.push16 v).byteAt (s.sp - 2)).toNat = v.toNat % 256 ∧
    (s.push16 v).sp = s.sp - 2 ∧ (∀ a, a ∉ pushed s → (s.push16 v).byteAt a = s.byteAt a) ∧
    (s.push16 v).regs = s.regs ∧ (s.push16 v).pc = s.pc ∧ (s.push16 v).flags = s.flags ∧ (s.push16 v).ie = s.ie ∧
    (s.push16 v).io = s.io

/-- A pop reads the low byte at SP and the high byte at SP + 1, raises SP by 2 and changes no memory and nothing else; popping what
was pushed gives the word back and restores SP, for every word and every SP (R67; which byte lies where and the direction are the
decision D6, log entry 7, and "for every SP" is what R67 marks as derived). -/
def Obligations.PopAfterPushRoundTrip : Prop :=
  (∀ s : State, s.top16.toNat = 256 * (s.byteAt (s.sp + 1)).toNat + (s.byteAt s.sp).toNat ∧ s.pop16.sp = s.sp + 2 ∧
    s.pop16.mem = s.mem ∧ s.pop16.regs = s.regs ∧ s.pop16.pc = s.pc ∧ s.pop16.flags = s.flags ∧ s.pop16.ie = s.ie ∧
    s.pop16.io = s.io) ∧
  (∀ (s : State) (x : Addr), (s.push16 x).top16 = x ∧ (s.push16 x).pop16.sp = s.sp)

/-! ## The flag model (10_state.md, 30_encoding.md) -/

/-- Parity is 1 for an even number of 1 bits; `SetZSP` writes Zero, Sign (bit 7) and Parity and no other flag. -/
def Obligations.ParityAndSetZsp : Prop :=
  (∀ v : Byte, parity8 v = true ↔ ((List.range 8).filter (fun k => v.getLsbD k)).length % 2 = 0) ∧
  (∀ (v : Byte) (f : Flags), ((setZSP v f).z = true ↔ v = 0) ∧ (setZSP v f).s = v.getLsbD 7 ∧
    (setZSP v f).p = parity8 v ∧ (setZSP v f).cy = f.cy ∧ (setZSP v f).ac = f.ac)

/-- The eight conditions and the flag each tests (R97, the spec's decision D9), with their codes in the encodings of Jcc, Ccc and
Rcc. -/
def Obligations.ConditionsTestOneFlag : Prop :=
  ∀ f : Flags, (condHolds .nz f = true ↔ f.z = false) ∧ (condHolds .z f = true ↔ f.z = true) ∧
    (condHolds .nc f = true ↔ f.cy = false) ∧ (condHolds .c f = true ↔ f.cy = true) ∧ (condHolds .po f = true ↔ f.p = false) ∧
    (condHolds .pe f = true ↔ f.p = true) ∧ (condHolds .p f = true ↔ f.s = false) ∧ (condHolds .m f = true ↔ f.s = true) ∧
    [Cond.nz, .z, .nc, .c, .po, .pe, .p, .m].map Cond.code = [0, 1, 2, 3, 4, 5, 6, 7]

/-- The PSW flag byte: S, Z, 0, AC, 0, P, 1, CY from bit 7 to bit 0; unpacking what was packed changes no flag, and packing what was
unpacked is `(b & 0xD5) | 0x02` (R35, the spec's decision D7). -/
def Obligations.PswFlagByte : Prop :=
  (∀ f : Flags, (packFlags f).getLsbD 7 = f.s ∧ (packFlags f).getLsbD 6 = f.z ∧ (packFlags f).getLsbD 5 = false ∧
    (packFlags f).getLsbD 4 = f.ac ∧ (packFlags f).getLsbD 3 = false ∧ (packFlags f).getLsbD 2 = f.p ∧
    (packFlags f).getLsbD 1 = true ∧ (packFlags f).getLsbD 0 = f.cy ∧ unpackFlags (packFlags f) = f) ∧
  (∀ b : Byte, packFlags (unpackFlags b) = (b &&& 0xD5) ||| 0x02)

/-! ## Reset and the invariant (10_state.md, 70_reset_and_hazards.md) -/

/-- After `create` every register, flag and control bit is zero and every byte of memory is 0x00. -/
def Obligations.CreateZeroesEveryField : Prop :=
  (∀ r, create.reg r = 0) ∧ create.pc = 0 ∧ create.sp = 0 ∧ create.ie = false ∧ create.flags.z = false ∧
  create.flags.s = false ∧ create.flags.p = false ∧ create.flags.cy = false ∧ create.flags.ac = false ∧
  (∀ a : Addr, create.byteAt a = 0)

/-- The created state meets the invariant: its memory is in canonical form. -/
def Obligations.CreatedStateMeetsTheInvariant : Prop := create.Inv

/-- Every step from a state that meets the invariant leaves one that meets it: memory stays in canonical form, inside the 65536
bytes (R42). -/
def Obligations.StepKeepsTheInvariant : Prop :=
  ∀ s t : State, s.Inv → step s = .next t → t.Inv

/-- So does every move of the host: a creation, a step, a run, a raise, a load, a patch (R42, R292). -/
def Obligations.HostMovesKeepTheInvariant : Prop :=
  ∀ (m : HostMove) (s : State), s.Inv → (applyMove m s).Inv

/-! ## Data transfer (41_data_transfer.md) -/

/-- MOV r1,r2 (R150), the 49 register pairs movBB to movAA: the destination gets the source's value; nothing else changes but
PC. -/
def Obligations.MoveRegisterCopiesTheSource : Prop :=
  ∀ (i : Instr) (dst src : Reg) (s : State), i.form = .movRR dst src →
    ∃ t, exec i s = .next t ∧ t.reg dst = s.reg src ∧ Kept s t [dst] [] ∧ t.flags = s.flags ∧ t.sp = s.sp ∧
      t.pc = s.pc + 1

/-- The byte loads: MOV r,M (R151), LDA (R156), LDAX (R160). The address is taken before the register is written. -/
def Obligations.ByteLoadsReadTheAddressedByte : Prop :=
  (∀ (i : Instr) (dst : Reg) (s : State), i.form = .movRM dst →
    ∃ t, exec i s = .next t ∧ t.reg dst = s.byteAt (s.pair .hl) ∧ Kept s t [dst] [] ∧ t.flags = s.flags ∧ t.sp = s.sp ∧
      t.pc = s.pc + 1) ∧
  (∀ (i : Instr) (addr : Addr) (s : State), i.form = .lda addr →
    ∃ t, exec i s = .next t ∧ t.reg .a = s.byteAt addr ∧ Kept s t [.a] [] ∧ t.flags = s.flags ∧ t.sp = s.sp ∧
      t.pc = s.pc + 3) ∧
  (∀ (i : Instr) (p : IndexPair) (s : State), i.form = .ldax p →
    ∃ t, exec i s = .next t ∧ t.reg .a = s.byteAt (s.indexAddr p) ∧ Kept s t [.a] [] ∧ t.flags = s.flags ∧
      t.sp = s.sp ∧ t.pc = s.pc + 1) ∧
  (∀ s : State, s.indexAddr .bc = s.pair .bc ∧ s.indexAddr .de = s.pair .de)

/-- The byte stores: MOV M,r (R152), MVI M (R154), STA (R157), STAX (R161). The addressed byte gets the value, every other byte
and every register keeps its own. -/
def Obligations.ByteStoresWriteTheAddressedByte : Prop :=
  (∀ (i : Instr) (src : Reg) (s : State), i.form = .movMR src →
    ∃ t, exec i s = .next t ∧ t.byteAt (s.pair .hl) = s.reg src ∧ Kept s t [] [s.pair .hl] ∧ t.flags = s.flags ∧
      t.sp = s.sp ∧ t.pc = s.pc + 1) ∧
  (∀ (i : Instr) (imm : Byte) (s : State), i.form = .mviM imm →
    ∃ t, exec i s = .next t ∧ t.byteAt (s.pair .hl) = imm ∧ Kept s t [] [s.pair .hl] ∧ t.flags = s.flags ∧
      t.sp = s.sp ∧ t.pc = s.pc + 2) ∧
  (∀ (i : Instr) (addr : Addr) (s : State), i.form = .sta addr →
    ∃ t, exec i s = .next t ∧ t.byteAt addr = s.reg .a ∧ Kept s t [] [addr] ∧ t.flags = s.flags ∧ t.sp = s.sp ∧
      t.pc = s.pc + 3) ∧
  (∀ (i : Instr) (p : IndexPair) (s : State), i.form = .stax p →
    ∃ t, exec i s = .next t ∧ t.byteAt (s.indexAddr p) = s.reg .a ∧ Kept s t [] [s.indexAddr p] ∧ t.flags = s.flags ∧
      t.sp = s.sp ∧ t.pc = s.pc + 1)

/-- The immediate loads: MVI r (R153) and LXI for BC, DE, HL and SP (R155; that code 11 is SP is the decision D5, the byte order
of the operand is decoded, D11). -/
def Obligations.ImmediateLoadsWriteTheOperand : Prop :=
  (∀ (i : Instr) (dst : Reg) (imm : Byte) (s : State), i.form = .mviR dst imm →
    ∃ t, exec i s = .next t ∧ t.reg dst = imm ∧ Kept s t [dst] [] ∧ t.flags = s.flags ∧ t.sp = s.sp ∧ t.pc = s.pc + 2) ∧
  (∀ (i : Instr) (p : Pair) (imm : Addr) (s : State), i.form = .lxi p imm →
    ∃ t, exec i s = .next t ∧ t.pair p = imm ∧ Kept s t (regsOf p) [] ∧ t.flags = s.flags ∧
      (p ≠ .sp → t.sp = s.sp) ∧ t.pc = s.pc + 3)

/-- LHLD (R158) and SHLD (R159): L with the byte at the address, H with the byte at the address plus 1 modulo 65536 (D4, D11,
D19). -/
def Obligations.DirectHlTransfer : Prop :=
  (∀ (i : Instr) (addr : Addr) (s : State), i.form = .lhld addr →
    ∃ t, exec i s = .next t ∧ t.reg .l = s.byteAt addr ∧ t.reg .h = s.byteAt (addr + 1) ∧ Kept s t [.h, .l] [] ∧
      t.flags = s.flags ∧ t.sp = s.sp ∧ t.pc = s.pc + 3) ∧
  (∀ (i : Instr) (addr : Addr) (s : State), i.form = .shld addr →
    ∃ t, exec i s = .next t ∧ t.byteAt addr = s.reg .l ∧ t.byteAt (addr + 1) = s.reg .h ∧
      Kept s t [] [addr, addr + 1] ∧ t.flags = s.flags ∧ t.sp = s.sp ∧ t.pc = s.pc + 3)

/-- XCHG (R162) exchanges H with D and L with E; SPHL (R163) copies HL into SP. -/
def Obligations.ExchangeAndSpFromHl : Prop :=
  (∀ s : State, ∃ t, exec .xchg s = .next t ∧ t.reg .h = s.reg .d ∧ t.reg .l = s.reg .e ∧ t.reg .d = s.reg .h ∧
    t.reg .e = s.reg .l ∧ Kept s t [.d, .e, .h, .l] [] ∧ t.flags = s.flags ∧ t.sp = s.sp ∧ t.pc = s.pc + 1) ∧
  (∀ s : State, ∃ t, exec .sphl s = .next t ∧ t.sp = s.pair .hl ∧ Kept s t [] [] ∧ t.flags = s.flags ∧
    t.pc = s.pc + 1)

/-! ## Arithmetic (42_arithmetic.md) -/

/-- ADD, ADI, ADC, ACI with a register, M or an immediate (R171 to R176): the sum with the carry in, modulo 256; all five flags by
R31, Auxiliary-Carry from the low nibbles with the carry in. -/
def Obligations.AdditionRule : Prop :=
  ∀ (i : Instr) (op : AluOp) (v : Byte) (s : State), aluOperand i.form s = some (op, v) → op = .add ∨ op = .adc →
    ∃ t, exec i s = .next t ∧
      (t.reg .a).toNat = ((s.reg .a).toNat + v.toNat + (if op = .adc then s.flags.cy.toNat else 0)) % 256 ∧
      ZspOf (t.reg .a) t.flags ∧
      (t.flags.cy = true ↔ 255 < (s.reg .a).toNat + v.toNat + (if op = .adc then s.flags.cy.toNat else 0)) ∧
      (t.flags.ac = true ↔
        15 < (s.reg .a).toNat % 16 + v.toNat % 16 + (if op = .adc then s.flags.cy.toNat else 0)) ∧
      Kept s t [.a] [] ∧ t.sp = s.sp ∧ AdvancesByLength i s t

/-- SUB, SUI, SBB, SBI with a register, M or an immediate (R177 to R182): the difference with the borrow in, modulo 256; CY is the
borrow, and AC follows the parameter `AC_SUB` (R32, D8). -/
def Obligations.SubtractionRule : Prop :=
  ∀ (i : Instr) (op : AluOp) (v : Byte) (s : State), aluOperand i.form s = some (op, v) → op = .sub ∨ op = .sbb →
    ∃ t, exec i s = .next t ∧
      (t.reg .a).toNat = ((s.reg .a).toNat + 512 - v.toNat - (if op = .sbb then s.flags.cy.toNat else 0)) % 256 ∧
      SubtractFlags (s.reg .a) v (if op = .sbb then s.flags.cy.toNat else 0) (t.reg .a) t.flags ∧
      Kept s t [.a] [] ∧ t.sp = s.sp ∧ AdvancesByLength i s t

/-- INR and DCR of a register or of M (R183 to R186): the byte plus or minus 1 modulo 256; Z, S, P, AC from it, CY kept; AC of DCR
follows `AC_SUB` (D8). -/
def Obligations.IncrementAndDecrement : Prop :=
  (∀ (i : Instr) (o : Operand8) (s : State), i.form = .inr o →
    ∃ t, exec i s = .next t ∧
      (match o with
        | .reg r => (t.reg r).toNat = ((s.reg r).toNat + 1) % 256 ∧ Kept s t [r] []
        | .m => (t.byteAt (s.pair .hl)).toNat = ((s.byteAt (s.pair .hl)).toNat + 1) % 256 ∧ Kept s t [] [s.pair .hl]) ∧
      ZspOf (source o s + 1) t.flags ∧ (t.flags.ac = true ↔ (source o s).toNat % 16 = 15) ∧
      t.flags.cy = s.flags.cy ∧ t.sp = s.sp ∧ t.pc = s.pc + 1) ∧
  (∀ (i : Instr) (o : Operand8) (s : State), i.form = .dcr o →
    ∃ t, exec i s = .next t ∧
      (match o with
        | .reg r => (t.reg r).toNat = ((s.reg r).toNat + 255) % 256 ∧ Kept s t [r] []
        | .m => (t.byteAt (s.pair .hl)).toNat = ((s.byteAt (s.pair .hl)).toNat + 255) % 256 ∧
            Kept s t [] [s.pair .hl]) ∧
      ZspOf (source o s - 1) t.flags ∧
      (match acSub with
        | .borrow => t.flags.ac = true ↔ (source o s).toNat % 16 = 0
        | .carryOfComplement => t.flags.ac = true ↔ (source o s).toNat % 16 ≠ 0) ∧
      t.flags.cy = s.flags.cy ∧ t.sp = s.sp ∧ t.pc = s.pc + 1)

/-- INX and DCX of BC, DE, HL and SP (R187, R188; SP by D5): the pair plus or minus 1 modulo 65536, no flag. -/
def Obligations.PairIncrementAndDecrement : Prop :=
  (∀ (i : Instr) (p : Pair) (s : State), i.form = .inx p →
    ∃ t, exec i s = .next t ∧ (t.pair p).toNat = ((s.pair p).toNat + 1) % 65536 ∧ Kept s t (regsOf p) [] ∧
      t.flags = s.flags ∧ (p ≠ .sp → t.sp = s.sp) ∧ t.pc = s.pc + 1) ∧
  (∀ (i : Instr) (p : Pair) (s : State), i.form = .dcx p →
    ∃ t, exec i s = .next t ∧ (t.pair p).toNat = ((s.pair p).toNat + 65535) % 65536 ∧ Kept s t (regsOf p) [] ∧
      t.flags = s.flags ∧ (p ≠ .sp → t.sp = s.sp) ∧ t.pc = s.pc + 1)

/-- DAD (R189; SP by D5): HL plus the pair modulo 65536; CY is the 17th bit, the other four flags keep their values. -/
def Obligations.DadWritesHlAndCarryOnly : Prop :=
  ∀ (i : Instr) (p : Pair) (s : State), i.form = .dad p →
    ∃ t, exec i s = .next t ∧ (t.pair .hl).toNat = ((s.pair .hl).toNat + (s.pair p).toNat) % 65536 ∧
      (t.flags.cy = true ↔ 65535 < (s.pair .hl).toNat + (s.pair p).toNat) ∧ t.flags.z = s.flags.z ∧
      t.flags.s = s.flags.s ∧ t.flags.p = s.flags.p ∧ t.flags.ac = s.flags.ac ∧ Kept s t [.h, .l] [] ∧ t.sp = s.sp ∧
      t.pc = s.pc + 1

/-! ## Logical, compare, rotate (43_logical.md) -/

/-- ANA, XRA, ORA and their immediates (R200 to R208): the bitwise operation; Z, S, P from the new accumulator, CY and AC forced to
0 (R33). -/
def Obligations.LogicalRule : Prop :=
  ∀ (i : Instr) (op : AluOp) (v : Byte) (s : State), aluOperand i.form s = some (op, v) →
    op = .ana ∨ op = .xra ∨ op = .ora →
    ∃ t, exec i s = .next t ∧
      (∀ k < 8, (t.reg .a).getLsbD k =
        if op = .ana then (s.reg .a).getLsbD k && v.getLsbD k
        else if op = .xra then (s.reg .a).getLsbD k != v.getLsbD k
        else (s.reg .a).getLsbD k || v.getLsbD k) ∧
      ZspOf (t.reg .a) t.flags ∧ t.flags.cy = false ∧ t.flags.ac = false ∧ Kept s t [.a] [] ∧ t.sp = s.sp ∧
      AdvancesByLength i s t

/-- CMP and CPI (R209 to R211, C2): the accumulator is kept; the five flags are those of the difference (AC by `AC_SUB`, D8), so
Z tells equality and CY tells unsigned less-than. -/
def Obligations.CompareRule : Prop :=
  ∀ (i : Instr) (v : Byte) (s : State), aluOperand i.form s = some (.cmp, v) →
    ∃ t, exec i s = .next t ∧ SubtractFlags (s.reg .a) v 0 (s.reg .a - v) t.flags ∧
      (t.flags.z = true ↔ s.reg .a = v) ∧ (t.flags.cy = true ↔ (s.reg .a).toNat < v.toNat) ∧
      Kept s t [] [] ∧ t.sp = s.sp ∧ AdvancesByLength i s t

/-- The rotates (R212 to R215; the directions are the decision D10): bit by bit, with CY the bit rotated out; the other flags
keep their values. -/
def Obligations.RotateRule : Prop :=
  (∀ s : State, ∃ t, exec .rlc s = .next t ∧ (∀ k < 7, (t.reg .a).getLsbD (k + 1) = (s.reg .a).getLsbD k) ∧
    (t.reg .a).getLsbD 0 = (s.reg .a).getLsbD 7 ∧ t.flags = { s.flags with cy := (s.reg .a).getLsbD 7 } ∧
    Kept s t [.a] [] ∧ t.sp = s.sp ∧ t.pc = s.pc + 1) ∧
  (∀ s : State, ∃ t, exec .rrc s = .next t ∧ (∀ k < 7, (t.reg .a).getLsbD k = (s.reg .a).getLsbD (k + 1)) ∧
    (t.reg .a).getLsbD 7 = (s.reg .a).getLsbD 0 ∧ t.flags = { s.flags with cy := (s.reg .a).getLsbD 0 } ∧
    Kept s t [.a] [] ∧ t.sp = s.sp ∧ t.pc = s.pc + 1) ∧
  (∀ s : State, ∃ t, exec .ral s = .next t ∧ (∀ k < 7, (t.reg .a).getLsbD (k + 1) = (s.reg .a).getLsbD k) ∧
    (t.reg .a).getLsbD 0 = s.flags.cy ∧ t.flags = { s.flags with cy := (s.reg .a).getLsbD 7 } ∧
    Kept s t [.a] [] ∧ t.sp = s.sp ∧ t.pc = s.pc + 1) ∧
  (∀ s : State, ∃ t, exec .rar s = .next t ∧ (∀ k < 7, (t.reg .a).getLsbD k = (s.reg .a).getLsbD (k + 1)) ∧
    (t.reg .a).getLsbD 7 = s.flags.cy ∧ t.flags = { s.flags with cy := (s.reg .a).getLsbD 0 } ∧
    Kept s t [.a] [] ∧ t.sp = s.sp ∧ t.pc = s.pc + 1)

/-- "nine RAL in a row restore A and CY" (R214). -/
def Obligations.NineRalRestoreAccumulatorAndCarry : Prop :=
  ∀ s : State, ∃ t, ralTimes 9 s = some t ∧ t.reg .a = s.reg .a ∧ t.flags = s.flags

/-- CMA (R216) complements the accumulator and writes no flag; STC (R217) sets and CMC (R218) complements CY only. -/
def Obligations.ComplementAndCarryInstructions : Prop :=
  (∀ s : State, ∃ t, exec .cma s = .next t ∧ (t.reg .a).toNat = 255 - (s.reg .a).toNat ∧ Kept s t [.a] [] ∧
    t.flags = s.flags ∧ t.sp = s.sp ∧ t.pc = s.pc + 1) ∧
  (∀ s : State, ∃ t, exec .stc s = .next t ∧ t.flags = { s.flags with cy := true } ∧ Kept s t [] [] ∧ t.sp = s.sp ∧
    t.pc = s.pc + 1) ∧
  (∀ s : State, ∃ t, exec .cmc s = .next t ∧ t.flags = { s.flags with cy := !s.flags.cy } ∧ Kept s t [] [] ∧
    t.sp = s.sp ∧ t.pc = s.pc + 1)

/-! ## Branch (44_branch.md) -/

/-- JMP (R230), PCHL (R237) and the eight Jcc (R231): PC is the target, or PC + 3 where the condition fails; nothing else
changes. -/
def Obligations.JumpsSetPcOnly : Prop :=
  (∀ (i : Instr) (target : Addr) (s : State), i.form = .jmp target →
    ∃ t, exec i s = .next t ∧ t.pc = target ∧ Kept s t [] [] ∧ t.flags = s.flags ∧ t.sp = s.sp) ∧
  (∀ s : State, ∃ t, exec .pchl s = .next t ∧ t.pc = s.pair .hl ∧ Kept s t [] [] ∧ t.flags = s.flags ∧ t.sp = s.sp) ∧
  (∀ (i : Instr) (cnd : Cond) (target : Addr) (s : State), i.form = .jcc cnd target →
    ∃ t, exec i s = .next t ∧ t.pc = (if condHolds cnd s.flags then target else s.pc + 3) ∧ Kept s t [] [] ∧
      t.flags = s.flags ∧ t.sp = s.sp)

/-- CALL (R232), the eight Ccc (R233) and RST n (R236): the return address, PC + 3 or PC + 1, is the word on top of the stack, SP is
lower by 2, PC is the target or 8 * n; where the condition fails the stack is untouched and PC is PC + 3. -/
def Obligations.CallsPushTheReturnAddress : Prop :=
  (∀ (i : Instr) (target : Addr) (s : State), i.form = .call target →
    ∃ t, exec i s = .next t ∧ t.pc = target ∧ t.top16 = s.pc + 3 ∧ t.sp = s.sp - 2 ∧ Kept s t [] (pushed s) ∧
      t.flags = s.flags) ∧
  (∀ (i : Instr) (cnd : Cond) (target : Addr) (s : State), i.form = .ccc cnd target →
    ∃ t, exec i s = .next t ∧ t.flags = s.flags ∧
      (condHolds cnd s.flags = true → t.pc = target ∧ t.top16 = s.pc + 3 ∧ t.sp = s.sp - 2 ∧ Kept s t [] (pushed s)) ∧
      (condHolds cnd s.flags = false → t.pc = s.pc + 3 ∧ t.sp = s.sp ∧ Kept s t [] [])) ∧
  (∀ (i : Instr) (n : RstVector) (s : State), i.form = .rst n →
    ∃ t, exec i s = .next t ∧ t.pc.toNat = 8 * n.val ∧ t.top16 = s.pc + 1 ∧ t.sp = s.sp - 2 ∧ Kept s t [] (pushed s) ∧
      t.flags = s.flags)

/-- RET (R234) and the eight Rcc (R235): PC is the word on top of the stack and SP is higher by 2, or PC + 1 and SP kept where the
condition fails; memory is unchanged. That the low byte lies at SP and the high byte at SP + 1, and that SP goes up, is the decision
D6, the conditions are D9 (log entry 7). -/
def Obligations.ReturnsPopThePc : Prop :=
  (∀ s : State, ∃ t, exec .ret s = .next t ∧ t.pc.toNat = 256 * (s.byteAt (s.sp + 1)).toNat + (s.byteAt s.sp).toNat ∧
    t.sp = s.sp + 2 ∧ Kept s t [] [] ∧ t.flags = s.flags) ∧
  (∀ (i : Instr) (cnd : Cond) (s : State), i.form = .rcc cnd →
    ∃ t, exec i s = .next t ∧ t.pc = (if condHolds cnd s.flags then s.top16 else s.pc + 1) ∧
      t.sp = (if condHolds cnd s.flags then s.sp + 2 else s.sp) ∧ Kept s t [] [] ∧ t.flags = s.flags)

/-- "executing CALL to address X, then at X executing RET, leaves PC at the instruction immediately following the original CALL,
and SP restored to its pre-CALL value" (R234), for every PC and SP. -/
def Obligations.ReturnAfterCallResumes : Prop :=
  ∀ (s : State) (target : Addr), ∃ t u, exec (.call target) s = .next t ∧ t.pc = target ∧ exec .ret t = .next u ∧
    u.pc = s.pc + 3 ∧ u.sp = s.sp ∧ (∀ r, u.reg r = s.reg r) ∧ u.flags = s.flags

/-! ## Stack (45_stack.md) -/

/-- PUSH of BC, DE, HL (R250) and of PSW (R251): the high byte at SP - 1, the low byte at SP - 2 (D6), SP lower by 2; for PSW A and
the packed flag byte (D7). -/
def Obligations.PushRule : Prop :=
  (∀ (i : Instr) (p : StackPair) (s : State), i.form = .push p →
    ∃ t, exec i s = .next t ∧ t.top16 = s.pair (stackPair p) ∧
      (t.byteAt (s.sp - 1)).toNat = (s.pair (stackPair p)).toNat / 256 ∧
      (t.byteAt (s.sp - 2)).toNat = (s.pair (stackPair p)).toNat % 256 ∧ t.sp = s.sp - 2 ∧ Kept s t [] (pushed s) ∧
      t.flags = s.flags ∧ t.pc = s.pc + 1) ∧
  (∀ s : State, ∃ t, exec .pushPsw s = .next t ∧ t.byteAt (s.sp - 1) = s.reg .a ∧
    t.byteAt (s.sp - 2) = packFlags s.flags ∧ t.sp = s.sp - 2 ∧ Kept s t [] (pushed s) ∧ t.flags = s.flags ∧
    t.pc = s.pc + 1)

/-- POP of BC, DE, HL (R252) and of PSW (R253): the low register, or the five flags, from the byte at SP (bits by D7), the high
register, or A, from the byte at SP + 1; SP higher by 2, memory unchanged. Which byte is which, and SP + 2, is the decision D6 (log
entry 7). -/
def Obligations.PopRule : Prop :=
  (∀ (i : Instr) (p : StackPair) (s : State), i.form = .pop p →
    ∃ t, exec i s = .next t ∧
      (t.pair (stackPair p)).toNat = 256 * (s.byteAt (s.sp + 1)).toNat + (s.byteAt s.sp).toNat ∧ t.sp = s.sp + 2 ∧
      Kept s t (regsOf (stackPair p)) [] ∧ t.flags = s.flags ∧ t.pc = s.pc + 1) ∧
  (∀ s : State, ∃ t, exec .popPsw s = .next t ∧ t.reg .a = s.byteAt (s.sp + 1) ∧
    t.flags.s = (s.byteAt s.sp).getLsbD 7 ∧ t.flags.z = (s.byteAt s.sp).getLsbD 6 ∧
    t.flags.ac = (s.byteAt s.sp).getLsbD 4 ∧ t.flags.p = (s.byteAt s.sp).getLsbD 2 ∧
    t.flags.cy = (s.byteAt s.sp).getLsbD 0 ∧ t.sp = s.sp + 2 ∧ Kept s t [.a] [] ∧ t.pc = s.pc + 1)

/-- XTHL (R254): L exchanges with the byte at SP and H with the byte at SP + 1; SP is unchanged, and two in a row restore HL and
memory. Which register meets which byte follows from the stack's byte order, the decision D6 (log entry 7). -/
def Obligations.ExchangeWithTopOfStack : Prop :=
  ∀ s : State, ∃ t u, exec .xthl s = .next t ∧ t.reg .l = s.byteAt s.sp ∧ t.reg .h = s.byteAt (s.sp + 1) ∧
    t.byteAt s.sp = s.reg .l ∧ t.byteAt (s.sp + 1) = s.reg .h ∧ Kept s t [.h, .l] [s.sp, s.sp + 1] ∧
    t.flags = s.flags ∧ t.sp = s.sp ∧ t.pc = s.pc + 1 ∧
    exec .xthl t = .next u ∧ (∀ r, u.reg r = s.reg r) ∧ (∀ a, u.byteAt a = s.byteAt a)

/-! ## Input, output, control (46_io_control.md) -/

/-- IN (R267) and OUT (R268; that the register is A is the decision D22): A gets the byte the environment answers, whatever it is
(free, log entry 1), and the event is recorded; OUT records port and A and changes nothing else. -/
def Obligations.InputAndOutput : Prop :=
  (∀ (i : Instr) (port : Byte) (s : State), i.form = .inPort port →
    ∃ t, exec i s = .next t ∧ t.reg .a = Config.portAnswer s.io port ∧ t.io = .input port (t.reg .a) :: s.io ∧
      (∀ r, r ≠ .a → t.reg r = s.reg r) ∧ (∀ a, t.byteAt a = s.byteAt a) ∧ t.ie = s.ie ∧ t.flags = s.flags ∧
      t.sp = s.sp ∧ t.pc = s.pc + 2) ∧
  (∀ (i : Instr) (port : Byte) (s : State), i.form = .outPort port →
    ∃ t, exec i s = .next t ∧ t.io = .output port (s.reg .a) :: s.io ∧ (∀ r, t.reg r = s.reg r) ∧
      (∀ a, t.byteAt a = s.byteAt a) ∧ t.ie = s.ie ∧ t.flags = s.flags ∧ t.sp = s.sp ∧ t.pc = s.pc + 2)

/-- EI (R269, at once: D16) and DI (R270) assign IE; HLT (R271, D12) and NOP (R272) change PC only, and nothing is latched. -/
def Obligations.ControlInstructions : Prop :=
  (∀ s : State, exec .ei s = .next { s with ie := true, pc := s.pc + 1 }) ∧
  (∀ s : State, exec .di s = .next { s with ie := false, pc := s.pc + 1 }) ∧
  (∀ s : State, exec .hlt s = .next { s with pc := s.pc + 1 }) ∧
  (∀ s : State, exec .nop s = .next { s with pc := s.pc + 1 })

/-! ## Rules over all instructions -/

/-- The port operations the environment sees are exactly those of IN and OUT, in order, each with its port and, for OUT, its value;
IN and OUT never touch memory, and no other instruction touches a port (R77). The record `io`, with the answers of IN in it, is the
model's own (log entry 2), and that the register is A is the decision D22 (log entry 7). -/
def Obligations.OnlyInAndOutTouchPorts : Prop :=
  ∀ (i : Instr) (s t : State), exec i s = .next t →
    (match i.form with
      | .inPort port => t.io = .input port (t.reg .a) :: s.io ∧ t.mem = s.mem
      | .outPort port => t.io = .output port (s.reg .a) :: s.io ∧ t.mem = s.mem
      | _ => t.io = s.io)

/-- Every instruction that is no control transfer advances PC by its length modulo 65536 (R26, R123; HLT with them by D12). -/
def Obligations.PcAdvancesByTheLength : Prop :=
  ∀ (i : Instr) (s t : State), exec i s = .next t → transfers i.form = false →
    AdvancesByLength i s t

/-- An instruction writes no flag outside the table of R34: the others keep exactly the value they had (R28). -/
def Obligations.FlagsOutsideTheTableAreKept : Prop :=
  ∀ (i : Instr) (s t : State), exec i s = .next t → ∀ x : Flag, x ∉ flagsWritten i.form → flag t.flags x = flag s.flags x

/-- Only EI and DI write IE, and no instruction reads it: replacing IE before an instruction other than EI and DI replaces it after
and changes nothing else (R36). -/
def Obligations.InterruptEnableWrittenByEiAndDiOnly : Prop :=
  ∀ (i : Instr) (s : State), i ≠ .ei → i ≠ .di → ∀ t, exec i s = .next t →
    t.ie = s.ie ∧ ∀ x : Bool, exec i { s with ie := x } = .next { t with ie := x }

/-- Auxiliary-Carry is read by PUSH PSW only (R34): for every other instruction, two states that differ in AC alone lead to
answers that differ in AC at most. -/
def Obligations.AuxiliaryCarryIsReadByPushPswOnly : Prop :=
  ∀ (i : Instr) (s : State) (x : Bool), i ≠ .pushPsw → SameButAc (exec i (withAc s x)) (exec i s)

/-- SP is written by the instructions R27 lists and by no other, each to the value its rule gives: SP - 2 for a push and SP + 2 for a
pop are the decision D6 (R66, R67, log entry 7), the SP forms of LXI, INX and DCX the decision D5 (log entry 6), SPHL takes HL
(R163). -/
def Obligations.SpWrittenByTheListedInstructions : Prop :=
  ∀ (i : Instr) (s t : State), exec i s = .next t → t.sp = spAfter i.form s

/-- An instruction stores to the addresses of the table of R69 and nowhere else. -/
def Obligations.MemoryOutsideTheListedStoresIsKept : Prop :=
  ∀ (i : Instr) (s t : State), exec i s = .next t → ∀ a : Addr, a ∉ storesTo i.form s → t.byteAt a = s.byteAt a

/-! ## Interrupts (60_exceptions.md) -/

/-- `raise(n)`: with IE = 0 nothing at all; with IE = 1 PC is pushed, PC becomes 8 * n, IE becomes 0, and nothing else changes, so
that a RET goes back to where the program was. -/
def Obligations.RaiseRule : Prop :=
  (∀ (n : RstVector) (s : State), s.ie = false → raise n s = s) ∧
  (∀ (n : RstVector) (s : State), s.ie = true →
    (raise n s).mem = (s.push16 s.pc).mem ∧ (raise n s).sp = (s.push16 s.pc).sp ∧ (raise n s).pc.toNat = 8 * n.val ∧
    (raise n s).ie = false ∧ (raise n s).regs = s.regs ∧ (raise n s).flags = s.flags ∧ (raise n s).io = s.io ∧
    ∃ t, exec .ret (raise n s) = .next t ∧ t.pc = s.pc)

/-- A handler's RET resumes the interrupted program where it was, restoring PC and SP and nothing else, IE staying 0 (R285, R290); a
second `raise` right after a first one that was taken is dropped (R286). -/
def Obligations.ReturnFromInterruptResumes : Prop :=
  ∀ (n m : RstVector) (s : State), s.ie = true →
    raise m (raise n s) = raise n s ∧
    ∃ t, exec .ret (raise n s) = .next t ∧ t.pc = s.pc ∧ t.sp = s.sp ∧ t.ie = false ∧ t.regs = s.regs ∧
      t.flags = s.flags ∧ ∀ a, a ∉ pushed s → t.byteAt a = s.byteAt a

/-! ## Cycles and the run loop (40_step_and_run.md) -/

/-- A step reports the cost computed before it, Halt exactly for HLT, and the Fault exactly where there is no cost (R121, R126); its
state is that of `step`. The cost depends on the flags for a conditional call or return only, which cost more when taken (R124);
the numbers are those of R125 (7, 4 and 7 for MVI r, ADD r and HLT are the document's, the others D14, log entry 4). -/
def Obligations.StepReportsItsCost : Prop :=
  ∀ s : State,
    (∀ t, step s = .next t → ∃ c, cost s = some c ∧ 4 ≤ c ∧ c ≤ 18 ∧
      stepReport s = if s.byteAt s.pc = 0x76 then .halt c t else .normal c t) ∧
    (cost s = none ↔ stepReport s = .fault (s.byteAt s.pc) s.pc) ∧
    (s.byteAt s.pc = 0x76 → cost s = some 7) ∧
    (∀ (i : Instr) (dst : Reg) (imm : Byte), i.form = .mviR dst imm → cycles i s.flags = some 7) ∧
    (∀ (i : Instr) (r : Reg), i.form = .alu .add (.reg r) → cycles i s.flags = some 4) ∧
    (∀ (i : Instr) (cnd : Cond) (target : Addr), i.form = .ccc cnd target →
      cycles i s.flags = some (if condHolds cnd s.flags then 17 else 11)) ∧
    (∀ (i : Instr) (cnd : Cond), i.form = .rcc cnd → cycles i s.flags = some (if condHolds cnd s.flags then 11 else 5)) ∧
    (∀ (i : Instr) (f : Flags), (∀ cnd target, i.form ≠ .ccc cnd target) → (∀ cnd, i.form ≠ .rcc cnd) →
      cycles i f = cycles i s.flags)

/-- Every `run` with a budget returns, with a total no greater than the budget (R130; the default policy, D13). -/
def Obligations.RunReturnsWithinTheBudget : Prop :=
  ∀ (budget : Nat) (s : State), ∃ r, run budget s = some r ∧ r.total ≤ budget

/-- Slices add up (R134): a run that ends Completed can be continued; the run over the whole budget goes through its state and adds
its total. -/
def Obligations.RunSlicesAddUp : Prop :=
  ∀ (b1 b2 : Nat) (s : State) (r : RunResult), run b1 s = some r → r.reason = .completed →
    ∃ q, run (b1 - r.total + b2) r.state = some q ∧
      run (b1 + b2) s = some { reason := q.reason, total := r.total + q.total, state := q.state }

/-- At a byte with no handler a run of any budget, 0 included, ends Faulted at once with total 0 and the state as it was (R131,
R132), and a budget of 0 executes nothing elsewhere (R132). -/
def Obligations.RunAtAFaultOrWithNoBudget : Prop :=
  (∀ (budget : Nat) (s : State), s.byteAt s.pc ∈ illegalBytes →
    run budget s = some { reason := .faulted (s.byteAt s.pc) s.pc, total := 0, state := s }) ∧
  (∀ s : State, s.byteAt s.pc ∉ illegalBytes → run 0 s = some { reason := .completed, total := 0, state := s })

/-! ## Loading an image (70_reset_and_hazards.md) -/

/-- `load_image`: an image that fits is copied byte for byte from the offset on, every other byte, every register, PC and IE keep
their values (R312; that PC is kept is D23); one that does not fit is refused (R313, C3, D23). -/
def Obligations.LoadImageCopiesOrRefuses : Prop :=
  (∀ (image : List Byte) (offset : Addr) (s : State), offset.toNat + image.length ≤ 65536 →
    ∃ t, loadImage image offset s = .ok t ∧
      (∀ k (h : k < image.length), t.byteAt (offset + BitVec.ofNat 16 k) = image[k]) ∧
      (∀ a : Addr, a.toNat < offset.toNat ∨ offset.toNat + image.length ≤ a.toNat → t.byteAt a = s.byteAt a) ∧
      t.regs = s.regs ∧ t.pc = s.pc ∧ t.sp = s.sp ∧ t.flags = s.flags ∧ t.ie = s.ie ∧ t.io = s.io) ∧
  (∀ (image : List Byte) (offset : Addr) (s : State), 65536 < offset.toNat + image.length →
    loadImage image offset s = .imageTooLargeForAddressSpace ∧ applyMove (.loadImage image offset) s = s)
end

