-- ==== Sys2Proof/Laws/State.lean ====
section
/-! SUPPORT. One lemma per field per update of the state: what each named update leaves in each field. No later proof unfolds
a record update. -/

namespace Sys2Proof.Machine

open Sys2Proof

variable (s : State)

/-! ### setReg -/

@[simp] theorem State.setReg_sp (r : Reg) (v : Byte) : (s.setReg r v).sp = s.sp := by cases r <;> rfl

@[simp] theorem State.setReg_pc (r : Reg) (v : Byte) : (s.setReg r v).pc = s.pc := by cases r <;> rfl

@[simp] theorem State.setReg_flags (r : Reg) (v : Byte) : (s.setReg r v).flags = s.flags := by cases r <;> rfl

@[simp] theorem State.setReg_ie (r : Reg) (v : Byte) : (s.setReg r v).ie = s.ie := by cases r <;> rfl

@[simp] theorem State.setReg_mem (r : Reg) (v : Byte) : (s.setReg r v).mem = s.mem := by cases r <;> rfl

@[simp] theorem State.setReg_io (r : Reg) (v : Byte) : (s.setReg r v).io = s.io := by cases r <;> rfl

/-! ### setFlags -/

@[simp] theorem State.setFlags_regs (f : Flags) : (s.setFlags f).regs = s.regs := rfl

@[simp] theorem State.setFlags_sp (f : Flags) : (s.setFlags f).sp = s.sp := rfl

@[simp] theorem State.setFlags_pc (f : Flags) : (s.setFlags f).pc = s.pc := rfl

@[simp] theorem State.setFlags_flags (f : Flags) : (s.setFlags f).flags = f := rfl

@[simp] theorem State.setFlags_ie (f : Flags) : (s.setFlags f).ie = s.ie := rfl

@[simp] theorem State.setFlags_mem (f : Flags) : (s.setFlags f).mem = s.mem := rfl

@[simp] theorem State.setFlags_io (f : Flags) : (s.setFlags f).io = s.io := rfl

/-! ### setCarry -/

@[simp] theorem State.setCarry_regs (c : Bool) : (s.setCarry c).regs = s.regs := rfl

@[simp] theorem State.setCarry_sp (c : Bool) : (s.setCarry c).sp = s.sp := rfl

@[simp] theorem State.setCarry_pc (c : Bool) : (s.setCarry c).pc = s.pc := rfl

@[simp] theorem State.setCarry_flags (c : Bool) : (s.setCarry c).flags = { s.flags with cy := c } := rfl

@[simp] theorem State.setCarry_ie (c : Bool) : (s.setCarry c).ie = s.ie := rfl

@[simp] theorem State.setCarry_mem (c : Bool) : (s.setCarry c).mem = s.mem := rfl

@[simp] theorem State.setCarry_io (c : Bool) : (s.setCarry c).io = s.io := rfl

/-! ### setPc -/

@[simp] theorem State.setPc_regs (v : Addr) : (s.setPc v).regs = s.regs := rfl

@[simp] theorem State.setPc_sp (v : Addr) : (s.setPc v).sp = s.sp := rfl

@[simp] theorem State.setPc_pc (v : Addr) : (s.setPc v).pc = v := rfl

@[simp] theorem State.setPc_flags (v : Addr) : (s.setPc v).flags = s.flags := rfl

@[simp] theorem State.setPc_ie (v : Addr) : (s.setPc v).ie = s.ie := rfl

@[simp] theorem State.setPc_mem (v : Addr) : (s.setPc v).mem = s.mem := rfl

@[simp] theorem State.setPc_io (v : Addr) : (s.setPc v).io = s.io := rfl

/-! ### advance -/

@[simp] theorem State.advance_regs (n : Nat) : (s.advance n).regs = s.regs := rfl

@[simp] theorem State.advance_sp (n : Nat) : (s.advance n).sp = s.sp := rfl

@[simp] theorem State.advance_pc (n : Nat) : (s.advance n).pc = s.pc + BitVec.ofNat 16 n := rfl

@[simp] theorem State.advance_flags (n : Nat) : (s.advance n).flags = s.flags := rfl

@[simp] theorem State.advance_ie (n : Nat) : (s.advance n).ie = s.ie := rfl

@[simp] theorem State.advance_mem (n : Nat) : (s.advance n).mem = s.mem := rfl

@[simp] theorem State.advance_io (n : Nat) : (s.advance n).io = s.io := rfl

/-! ### setByte -/

@[simp] theorem State.setByte_regs (a : Addr) (v : Byte) : (s.setByte a v).regs = s.regs := rfl

@[simp] theorem State.setByte_sp (a : Addr) (v : Byte) : (s.setByte a v).sp = s.sp := rfl

@[simp] theorem State.setByte_pc (a : Addr) (v : Byte) : (s.setByte a v).pc = s.pc := rfl

@[simp] theorem State.setByte_flags (a : Addr) (v : Byte) : (s.setByte a v).flags = s.flags := rfl

@[simp] theorem State.setByte_ie (a : Addr) (v : Byte) : (s.setByte a v).ie = s.ie := rfl

@[simp] theorem State.setByte_mem (a : Addr) (v : Byte) : (s.setByte a v).mem = Memory.write s.mem a.toNat v := rfl

@[simp] theorem State.setByte_io (a : Addr) (v : Byte) : (s.setByte a v).io = s.io := rfl

/-! ### setWord -/

@[simp] theorem State.setWord_regs (a v : Addr) : (s.setWord a v).regs = s.regs := rfl

@[simp] theorem State.setWord_sp (a v : Addr) : (s.setWord a v).sp = s.sp := rfl

@[simp] theorem State.setWord_pc (a v : Addr) : (s.setWord a v).pc = s.pc := rfl

@[simp] theorem State.setWord_flags (a v : Addr) : (s.setWord a v).flags = s.flags := rfl

@[simp] theorem State.setWord_ie (a v : Addr) : (s.setWord a v).ie = s.ie := rfl

@[simp] theorem State.setWord_io (a v : Addr) : (s.setWord a v).io = s.io := rfl

/-! ### push16 -/

@[simp] theorem State.push16_regs (v : Addr) : (s.push16 v).regs = s.regs := rfl

@[simp] theorem State.push16_sp (v : Addr) : (s.push16 v).sp = s.sp - 2 := rfl

@[simp] theorem State.push16_pc (v : Addr) : (s.push16 v).pc = s.pc := rfl

@[simp] theorem State.push16_flags (v : Addr) : (s.push16 v).flags = s.flags := rfl

@[simp] theorem State.push16_ie (v : Addr) : (s.push16 v).ie = s.ie := rfl

@[simp] theorem State.push16_io (v : Addr) : (s.push16 v).io = s.io := rfl

/-! ### pop16 -/

@[simp] theorem State.pop16_regs : (s.pop16).regs = s.regs := rfl

@[simp] theorem State.pop16_sp : (s.pop16).sp = s.sp + 2 := rfl

@[simp] theorem State.pop16_pc : (s.pop16).pc = s.pc := rfl

@[simp] theorem State.pop16_flags : (s.pop16).flags = s.flags := rfl

@[simp] theorem State.pop16_ie : (s.pop16).ie = s.ie := rfl

@[simp] theorem State.pop16_mem : (s.pop16).mem = s.mem := rfl

@[simp] theorem State.pop16_io : (s.pop16).io = s.io := rfl

/-! ### recordInput -/

@[simp] theorem State.recordInput_regs (p v : Byte) : (s.recordInput p v).regs = s.regs := rfl

@[simp] theorem State.recordInput_sp (p v : Byte) : (s.recordInput p v).sp = s.sp := rfl

@[simp] theorem State.recordInput_pc (p v : Byte) : (s.recordInput p v).pc = s.pc := rfl

@[simp] theorem State.recordInput_flags (p v : Byte) : (s.recordInput p v).flags = s.flags := rfl

@[simp] theorem State.recordInput_ie (p v : Byte) : (s.recordInput p v).ie = s.ie := rfl

@[simp] theorem State.recordInput_mem (p v : Byte) : (s.recordInput p v).mem = s.mem := rfl

@[simp] theorem State.recordInput_io (p v : Byte) : (s.recordInput p v).io = .input p v :: s.io := rfl

/-! ### portWrite -/

@[simp] theorem State.portWrite_regs (p v : Byte) : (s.portWrite p v).regs = s.regs := rfl

@[simp] theorem State.portWrite_sp (p v : Byte) : (s.portWrite p v).sp = s.sp := rfl

@[simp] theorem State.portWrite_pc (p v : Byte) : (s.portWrite p v).pc = s.pc := rfl

@[simp] theorem State.portWrite_flags (p v : Byte) : (s.portWrite p v).flags = s.flags := rfl

@[simp] theorem State.portWrite_ie (p v : Byte) : (s.portWrite p v).ie = s.ie := rfl

@[simp] theorem State.portWrite_mem (p v : Byte) : (s.portWrite p v).mem = s.mem := rfl

@[simp] theorem State.portWrite_io (p v : Byte) : (s.portWrite p v).io = .output p v :: s.io := rfl

/-! ### setPair -/

@[simp] theorem State.setPair_pc (p : Pair) (v : Addr) : (s.setPair p v).pc = s.pc := by cases p <;> rfl

@[simp] theorem State.setPair_flags (p : Pair) (v : Addr) : (s.setPair p v).flags = s.flags := by cases p <;> rfl

@[simp] theorem State.setPair_ie (p : Pair) (v : Addr) : (s.setPair p v).ie = s.ie := by cases p <;> rfl

@[simp] theorem State.setPair_mem (p : Pair) (v : Addr) : (s.setPair p v).mem = s.mem := by cases p <;> rfl

@[simp] theorem State.setPair_io (p : Pair) (v : Addr) : (s.setPair p v).io = s.io := by cases p <;> rfl

@[simp] theorem State.setPair_sp (p : Pair) (v : Addr) : (s.setPair p v).sp = if p = .sp then v else s.sp := by
  cases p <;> rfl

/-! ### setResult -/

@[simp] theorem State.setResult_sp (r : Byte × Flags) : (s.setResult r).sp = s.sp := rfl

@[simp] theorem State.setResult_pc (r : Byte × Flags) : (s.setResult r).pc = s.pc := rfl

@[simp] theorem State.setResult_flags (r : Byte × Flags) : (s.setResult r).flags = r.2 := rfl

@[simp] theorem State.setResult_ie (r : Byte × Flags) : (s.setResult r).ie = s.ie := rfl

@[simp] theorem State.setResult_mem (r : Byte × Flags) : (s.setResult r).mem = s.mem := rfl

@[simp] theorem State.setResult_io (r : Byte × Flags) : (s.setResult r).io = s.io := rfl

/-! ### Registers under each update -/

theorem State.reg_setReg (r q : Reg) (v : Byte) : (s.setReg r v).reg q = if q = r then v else s.reg q := by
  cases r <;> cases q <;> rfl

@[simp] theorem State.reg_setReg_same (r : Reg) (v : Byte) : (s.setReg r v).reg r = v := by cases r <;> rfl

theorem State.reg_setReg_ne (r q : Reg) (v : Byte) (h : q ≠ r) : (s.setReg r v).reg q = s.reg q := by
  simp [State.reg_setReg, h]

/-- Two states with the same registers read the same. -/
theorem State.reg_congr (t : State) (h : t.regs = s.regs) (q : Reg) : t.reg q = s.reg q := by
  cases q <;> simp [State.reg, h]


@[simp] theorem State.reg_setFlags (f : Flags) (q : Reg) : (s.setFlags f).reg q = s.reg q := by cases q <;> rfl

@[simp] theorem State.reg_setCarry (c : Bool) (q : Reg) : (s.setCarry c).reg q = s.reg q := by cases q <;> rfl

@[simp] theorem State.reg_setPc (v : Addr) (q : Reg) : (s.setPc v).reg q = s.reg q := by cases q <;> rfl

@[simp] theorem State.reg_advance (n : Nat) (q : Reg) : (s.advance n).reg q = s.reg q := by cases q <;> rfl

@[simp] theorem State.reg_setByte (a : Addr) (v : Byte) (q : Reg) : (s.setByte a v).reg q = s.reg q := by cases q <;> rfl

@[simp] theorem State.reg_setWord (a v : Addr) (q : Reg) : (s.setWord a v).reg q = s.reg q := by cases q <;> rfl

@[simp] theorem State.reg_push16 (v : Addr) (q : Reg) : (s.push16 v).reg q = s.reg q := by cases q <;> rfl

@[simp] theorem State.reg_pop16 (q : Reg) : (s.pop16).reg q = s.reg q := by cases q <;> rfl

@[simp] theorem State.reg_recordInput (p v : Byte) (q : Reg) : (s.recordInput p v).reg q = s.reg q := by cases q <;> rfl

@[simp] theorem State.reg_portWrite (p v : Byte) (q : Reg) : (s.portWrite p v).reg q = s.reg q := by cases q <;> rfl

@[simp] theorem State.reg_setResult (r : Byte × Flags) (q : Reg) :
    (s.setResult r).reg q = if q = .a then r.1 else s.reg q := by
  cases q <;> rfl

end Sys2Proof.Machine
end

