-- ==== Sys2Proof/Laws/Ops.lean ====
section
/-! SUPPORT. What each shared operation does, once: bytes of memory, words, pairs, the stack, the interrupt. Later proofs cite
these and unfold none of them. -/

namespace Sys2Proof.Machine

open Sys2Proof

/-! ### Bytes of a 16-bit value -/

@[simp] theorem lowByte_joinBytes (lo hi : Byte) : lowByte (joinBytes lo hi) = lo := by
  apply BitVec.eq_of_getLsbD_eq
  intro k hk
  simp only [lowByte, joinBytes, BitVec.getLsbD_extractLsb', BitVec.getLsbD_append]
  simp [hk]

@[simp] theorem highByte_joinBytes (lo hi : Byte) : highByte (joinBytes lo hi) = hi := by
  apply BitVec.eq_of_getLsbD_eq
  intro k hk
  simp only [highByte, joinBytes, BitVec.getLsbD_extractLsb', BitVec.getLsbD_append]
  simp [hk]

@[simp] theorem joinBytes_low_high (w : Addr) : joinBytes (lowByte w) (highByte w) = w := by
  apply BitVec.eq_of_getLsbD_eq
  intro k hk
  simp only [joinBytes, lowByte, highByte, BitVec.getLsbD_append, BitVec.getLsbD_extractLsb']
  split
  · next h => simp [h]
  · next h => rw [show 8 + (k - 8) = k by omega]; simp; omega

theorem joinBytes_toNat (lo hi : Byte) : (joinBytes lo hi).toNat = hi.toNat * 256 + lo.toNat := by
  simp only [joinBytes, BitVec.toNat_append]
  rw [← Nat.shiftLeft_add_eq_or_of_lt lo.isLt, Nat.shiftLeft_eq]

@[simp] theorem lowByte_toNat (w : Addr) : (lowByte w).toNat = w.toNat % 256 := by simp [lowByte]

@[simp] theorem highByte_toNat (w : Addr) : (highByte w).toNat = w.toNat / 256 := by
  have := w.isLt
  simp [highByte, Nat.shiftRight_eq_div_pow]
  omega

theorem vectorAddr_toNat (n : RstVector) : (vectorAddr n).toNat = 8 * n.val := by revert n; decide

/-! ### Memory of a state -/

theorem State.byteAt_setByte (s : State) (a b : Addr) (v : Byte) :
    (s.setByte a v).byteAt b = if b = a then v else s.byteAt b := by
  simp only [State.byteAt, State.setByte_mem, Memory.read_write, BitVec.toNat_inj]

@[simp] theorem State.byteAt_setByte_same (s : State) (a : Addr) (v : Byte) : (s.setByte a v).byteAt a = v := by
  simp [State.byteAt_setByte]

theorem State.byteAt_setByte_ne (s : State) (a b : Addr) (v : Byte) (h : b ≠ a) :
    (s.setByte a v).byteAt b = s.byteAt b := by
  simp [State.byteAt_setByte, h]

/-- Two states with the same memory read the same. -/
theorem State.byteAt_congr (s t : State) (h : t.mem = s.mem) (a : Addr) : t.byteAt a = s.byteAt a := by
  simp [State.byteAt, h]

theorem State.wordAt_congr (s t : State) (h : t.mem = s.mem) (a : Addr) : t.wordAt a = s.wordAt a := by
  simp [State.wordAt, State.byteAt_congr s t h]

@[simp] theorem State.byteAt_setReg (s : State) (r : Reg) (v : Byte) (a : Addr) : (s.setReg r v).byteAt a = s.byteAt a :=
  State.byteAt_congr _ _ (by simp) a

@[simp] theorem State.byteAt_setPair (s : State) (p : Pair) (v a : Addr) : (s.setPair p v).byteAt a = s.byteAt a :=
  State.byteAt_congr _ _ (by simp) a

@[simp] theorem State.byteAt_setFlags (s : State) (f : Flags) (a : Addr) : (s.setFlags f).byteAt a = s.byteAt a := rfl

@[simp] theorem State.byteAt_setCarry (s : State) (c : Bool) (a : Addr) : (s.setCarry c).byteAt a = s.byteAt a := rfl

@[simp] theorem State.byteAt_setResult (s : State) (r : Byte × Flags) (a : Addr) :
    (s.setResult r).byteAt a = s.byteAt a := rfl

@[simp] theorem State.byteAt_setPc (s : State) (v a : Addr) : (s.setPc v).byteAt a = s.byteAt a := rfl

@[simp] theorem State.byteAt_advance (s : State) (n : Nat) (a : Addr) : (s.advance n).byteAt a = s.byteAt a := rfl

@[simp] theorem State.byteAt_pop16 (s : State) (a : Addr) : s.pop16.byteAt a = s.byteAt a := rfl

@[simp] theorem State.byteAt_recordInput (s : State) (p v : Byte) (a : Addr) :
    (s.recordInput p v).byteAt a = s.byteAt a := rfl

@[simp] theorem State.byteAt_portWrite (s : State) (p v : Byte) (a : Addr) : (s.portWrite p v).byteAt a = s.byteAt a := rfl

/-! ### Words -/

theorem addr_succ_ne (a : Addr) : a + 1 ≠ a := by bv_omega

/-- What a two-byte write leaves at every address (R63). -/
theorem State.byteAt_setWord (s : State) (a b v : Addr) :
    (s.setWord a v).byteAt b = if b = a + 1 then highByte v else if b = a then lowByte v else s.byteAt b := by
  simp only [State.setWord, State.byteAt_setByte]

/-- A two-byte read after a two-byte write at the same address (R63). -/
@[simp] theorem State.wordAt_setWord (s : State) (a v : Addr) : (s.setWord a v).wordAt a = v := by
  rw [State.wordAt, State.byteAt_setWord, State.byteAt_setWord, if_neg (addr_succ_ne a).symm, if_pos rfl, if_pos rfl,
    joinBytes_low_high]

/-! ### The stack -/

/-- What a push leaves at every address (R66). -/
theorem State.byteAt_push16 (s : State) (v a : Addr) :
    (s.push16 v).byteAt a = if a = s.sp - 2 then lowByte v else if a = s.sp - 1 then highByte v else s.byteAt a := by
  show ((s.setByte (s.sp - 1) (highByte v)).setByte (s.sp - 2) (lowByte v)).byteAt a = _
  simp only [State.byteAt_setByte]

/-- The word a pop returns after a push is the word pushed, at every SP (R67). -/
@[simp] theorem State.top16_push16 (s : State) (v : Addr) : (s.push16 v).top16 = v := by
  have h : s.sp - 2 + 1 = s.sp - 1 := by bv_omega
  have hne : s.sp - 1 ≠ s.sp - 2 := by bv_omega
  rw [State.top16, State.push16_sp, State.wordAt, h, State.byteAt_push16, State.byteAt_push16, if_pos rfl, if_neg hne,
    if_pos rfl, joinBytes_low_high]

/-! ### Pairs -/

/-- The registers a pair is made of; none for SP (R22). -/
def pairRegs : Pair → List Reg
  | .bc => [.b, .c]
  | .de => [.d, .e]
  | .hl => [.h, .l]
  | .sp => []

@[simp] theorem State.pair_setPair_same (s : State) (p : Pair) (v : Addr) : (s.setPair p v).pair p = v := by
  cases p <;> simp [State.setPair, State.pair, State.reg_setReg]

/-- A pair write leaves every register outside the pair (R23). -/
theorem State.reg_setPair_ne (s : State) (p : Pair) (v : Addr) (q : Reg) (h : q ∉ pairRegs p) :
    (s.setPair p v).reg q = s.reg q := by
  cases p <;> cases q <;> first | rfl | exact absurd (by decide) h

theorem State.pair_congr (s t : State) (hr : t.regs = s.regs) (hs : t.sp = s.sp) (p : Pair) : t.pair p = s.pair p := by
  cases p <;> simp [State.pair, State.reg_congr s t hr, hs]

/-! ### The canonical form under each operation -/

theorem State.wf_setByte (s : State) (a : Addr) (v : Byte) (h : Memory.wf s.mem = true) :
    Memory.wf (s.setByte a v).mem = true := by
  rw [State.setByte_mem]
  exact Memory.wf_write _ _ _ h a.isLt

theorem State.wf_setWord (s : State) (a v : Addr) (h : Memory.wf s.mem = true) : Memory.wf (s.setWord a v).mem = true :=
  State.wf_setByte _ _ _ (State.wf_setByte _ _ _ h)

theorem State.wf_push16 (s : State) (v : Addr) (h : Memory.wf s.mem = true) : Memory.wf (s.push16 v).mem = true :=
  State.wf_setByte _ _ _ (State.wf_setByte _ _ _ h)

theorem wf_raise (n : RstVector) (s : State) (h : Memory.wf s.mem = true) : Memory.wf (raise n s).mem = true := by
  unfold raise
  split
  · exact State.wf_push16 s s.pc h
  · exact h

theorem wf_copyImage (image : List Byte) (a : Addr) (s : State) (h : Memory.wf s.mem = true) :
    Memory.wf (copyImage image a s).mem = true := by
  induction image generalizing a s with
  | nil => exact h
  | cons v image ih => exact ih (a + 1) _ (State.wf_setByte s a v h)

/-! ### The interrupt -/

/-- Everything `raise` can do (R285): nothing with IE = 0, the entry with IE = 1. -/
theorem raise_cases (n : RstVector) (s : State) :
    (s.ie = false ∧ raise n s = s) ∨
      (s.ie = true ∧ raise n s = { (s.push16 s.pc).setPc (vectorAddr n) with ie := false }) := by
  unfold raise
  cases h : s.ie <;> simp

end Sys2Proof.Machine
end

