-- ==== Sys2Proof/Laws/Decode.lean ====
section
/-! SUPPORT. The opcode map, row by row, for proofs over all opcode bytes. -/

namespace Sys2Proof

/-- A property of every byte is one of the 256 numerals. -/
theorem forall_byte (P : Byte → Prop) (h : ∀ n : Fin 256, P (BitVec.ofFin n)) (op : Byte) : P op := h op.toFin

/-- Decoding the three bytes at hand consumes the instruction's length of them, and a byte with no handler alone. -/
theorem decode_three (op b1 b2 : Byte) :
    decode [op, b1, b2] = .ok (decodeOp op b1 b2) ([op, b1, b2].drop ((opcodeLength op).getD 1)) := by
  simp only [decode, decodeOp, opcodeLength]
  cases opcodeEntry op <;> rfl

/-- Whether the map has no handler for a byte. -/
def OpcodeEntry.isFault : OpcodeEntry → Bool
  | .fault => true
  | .len1 _ => false
  | .len2 _ => false
  | .len3 _ => false

/-- The map has no handler for exactly the thirteen bytes of R101. -/
theorem isFault_opcodeEntry (op : Byte) : (opcodeEntry op).isFault = illegalBytes.contains op :=
  forall_byte (fun op => (opcodeEntry op).isFault = illegalBytes.contains op) (by decide +kernel) op

end Sys2Proof
end

