-- ==== Sys2Proof/Laws/Exec.lean ====
section
/-! SUPPORT. What an instruction does, by its shape: 244 meanings become one case per rule of the spec. Proofs about all
instructions rewrite with `exec_eq_formEffect` and split on the shape. -/

namespace Sys2Proof.Machine

open Sys2Proof

/-- The operation of an ALU form on the accumulator with operand `v`. -/
def aluEffect (op : AluOp) (v : Byte) (s : State) : State :=
  match op with
  | .add => addA v s
  | .adc => adcA v s
  | .sub => subA v s
  | .sbb => sbbA v s
  | .ana => anaA v s
  | .xra => xraA v s
  | .ora => oraA v s
  | .cmp => cmpA v s

/-- The answer of an instruction of a given shape. -/
def formEffect (fm : Form) (s : State) : Result :=
  match fm with
  | .movRR dst src => .next ((moveReg dst src s).advance 1)
  | .movRM dst => .next ((loadMem dst s).advance 1)
  | .movMR src => .next ((storeMem src s).advance 1)
  | .mviR dst imm => .next ((moveImm dst imm s).advance 2)
  | .mviM imm => .next ((storeImm imm s).advance 2)
  | .lxi p imm => .next ((loadPairImm p imm s).advance 3)
  | .lda addr => .next ((loadAcc addr s).advance 3)
  | .sta addr => .next ((storeAcc addr s).advance 3)
  | .lhld addr => .next ((loadHL addr s).advance 3)
  | .shld addr => .next ((storeHL addr s).advance 3)
  | .ldax p => .next ((loadAccIndirect p s).advance 1)
  | .stax p => .next ((storeAccIndirect p s).advance 1)
  | .xchg => .next ((exchange s).advance 1)
  | .sphl => .next ((spFromHL s).advance 1)
  | .alu op o => .next ((aluEffect op (readOperand o s) s).advance 1)
  | .aluImm op imm => .next ((aluEffect op imm s).advance 2)
  | .inr o => .next ((increment o s).advance 1)
  | .dcr o => .next ((decrement o s).advance 1)
  | .inx p => .next ((incrementPair p s).advance 1)
  | .dcx p => .next ((decrementPair p s).advance 1)
  | .dad p => .next ((addPair p s).advance 1)
  | .rlc => .next ((rotateLeft s).advance 1)
  | .rrc => .next ((rotateRight s).advance 1)
  | .ral => .next ((rotateLeftCarry s).advance 1)
  | .rar => .next ((rotateRightCarry s).advance 1)
  | .cma => .next ((complementA s).advance 1)
  | .stc => .next ((setCarry s).advance 1)
  | .cmc => .next ((complementCarry s).advance 1)
  | .jmp target => .next (jumpTo target s)
  | .jcc cnd target => .next (jumpIf cnd target s)
  | .call target => .next (callTo target s)
  | .ccc cnd target => .next (callIf cnd target s)
  | .ret => .next (returnOp s)
  | .rcc cnd => .next (returnIf cnd s)
  | .rst n => .next (restart n s)
  | .pchl => .next (jumpHL s)
  | .push p => .next ((pushPair p s).advance 1)
  | .pushPsw => .next ((pushStatus s).advance 1)
  | .pop p => .next ((popPair p s).advance 1)
  | .popPsw => .next ((popStatus s).advance 1)
  | .xthl => .next ((exchangeStack s).advance 1)
  | .inPort port => .next ((input port s).advance 2)
  | .outPort port => .next ((output port s).advance 2)
  | .ei => .next ((enableInterrupts s).advance 1)
  | .di => .next ((disableInterrupts s).advance 1)
  | .hlt => .next (s.advance 1)
  | .nop => .next (s.advance 1)
  | .illegal opcode => raiseFault opcode s

/-- An instruction does what its shape says. -/
theorem exec_eq_formEffect (i : Instr) (s : State) : exec i s = formEffect i.form s := by
  cases i <;> rfl

/-! ### The fields the shared ALU operations keep -/

@[simp] theorem aluEffect_pc (op : AluOp) (v : Byte) (s : State) : (aluEffect op v s).pc = s.pc := by cases op <;> rfl

@[simp] theorem aluEffect_sp (op : AluOp) (v : Byte) (s : State) : (aluEffect op v s).sp = s.sp := by cases op <;> rfl

@[simp] theorem aluEffect_mem (op : AluOp) (v : Byte) (s : State) : (aluEffect op v s).mem = s.mem := by cases op <;> rfl

@[simp] theorem aluEffect_ie (op : AluOp) (v : Byte) (s : State) : (aluEffect op v s).ie = s.ie := by cases op <;> rfl

@[simp] theorem aluEffect_io (op : AluOp) (v : Byte) (s : State) : (aluEffect op v s).io = s.io := by cases op <;> rfl

@[simp] theorem increment_pc (o : Operand8) (s : State) : (increment o s).pc = s.pc := by
  cases o <;> simp [increment, writeOperand]

@[simp] theorem increment_sp (o : Operand8) (s : State) : (increment o s).sp = s.sp := by
  cases o <;> simp [increment, writeOperand]

@[simp] theorem decrement_pc (o : Operand8) (s : State) : (decrement o s).pc = s.pc := by
  cases o <;> simp [decrement, writeOperand]

@[simp] theorem decrement_sp (o : Operand8) (s : State) : (decrement o s).sp = s.sp := by
  cases o <;> simp [decrement, writeOperand]

/-- No instruction is refused. -/
theorem exec_ne_refused (i : Instr) (s : State) (r : Refusal) : exec i s ≠ .refused r := by
  rw [exec_eq_formEffect]
  cases i.form <;> simp [formEffect, raiseFault]

end Sys2Proof.Machine
end

