-- ==== Sys2Proof/Laws/Flags.lean ====
section
/-! SUPPORT. What each flag computation leaves, in numbers: the sum and the difference, their carries and borrows. Later proofs
cite these and unfold no flag function. -/

namespace Sys2Proof.Machine

open Sys2Proof

/-- Bit 7 is set exactly for the bytes from 128 on. -/
theorem sign_iff (v : Byte) : v.getLsbD 7 = true ↔ 128 ≤ v.toNat := by
  revert v; decide

/-! ### Add8 (R31) -/

theorem add8_toNat (a b : Byte) (cin : Bool) : (add8 a b cin).1.toNat = (a.toNat + b.toNat + cin.toNat) % 256 := by
  simp [add8]

theorem add8_zsp (a b : Byte) (cin : Bool) (f : Flags) :
    (add8 a b cin).2 = { setZSP (add8 a b cin).1 f with cy := (add8 a b cin).2.cy, ac := (add8 a b cin).2.ac } := rfl

theorem add8_cy (a b : Byte) (cin : Bool) : (add8 a b cin).2.cy = true ↔ 255 < a.toNat + b.toNat + cin.toNat := by
  simp [add8]

theorem add8_ac (a b : Byte) (cin : Bool) :
    (add8 a b cin).2.ac = true ↔ 15 < a.toNat % 16 + b.toNat % 16 + cin.toNat := by
  simp only [add8, lowNibble]; exact decide_eq_true_iff

/-! ### Sub8 (R32) -/

theorem sub8_toNat (a b : Byte) (bin : Bool) :
    (sub8 a b bin).1.toNat = (a.toNat + 512 - b.toNat - bin.toNat) % 256 := by
  have hb : bin.toNat ≤ 1 := by cases bin <;> simp
  have h1 := a.isLt
  have h2 := b.isLt
  simp [sub8, BitVec.toNat_ofInt]
  omega

theorem sub8_zsp (a b : Byte) (bin : Bool) (f : Flags) :
    (sub8 a b bin).2 = { setZSP (sub8 a b bin).1 f with cy := (sub8 a b bin).2.cy, ac := (sub8 a b bin).2.ac } := rfl

theorem sub8_cy (a b : Byte) (bin : Bool) : (sub8 a b bin).2.cy = true ↔ a.toNat < b.toNat + bin.toNat := by
  simp [sub8]; omega

/-- The borrow of the low nibble, or its complement, as the parameter says (D8). -/
theorem sub8_ac (a b : Byte) (bin : Bool) :
    (sub8 a b bin).2.ac = acAfterSub (decide (a.toNat % 16 < b.toNat % 16 + bin.toNat)) := by
  refine congrArg acAfterSub (decide_eq_decide.mpr ?_)
  simp only [lowNibble]
  omega

/-! ### INR and DCR (R183, R185) -/

@[simp] theorem inrFlags_cy (v : Byte) (f : Flags) : (inrFlags v f).cy = f.cy := rfl

@[simp] theorem dcrFlags_cy (v : Byte) (f : Flags) : (dcrFlags v f).cy = f.cy := rfl

theorem inrFlags_ac (v : Byte) (f : Flags) : (inrFlags v f).ac = true ↔ v.toNat % 16 = 15 := by
  simp [inrFlags, lowNibble]; omega

theorem dcrFlags_ac (v : Byte) (f : Flags) : (dcrFlags v f).ac = acAfterSub (decide (v.toNat % 16 = 0)) := by
  refine congrArg acAfterSub (decide_eq_decide.mpr ?_)
  simp only [lowNibble]
  omega

end Sys2Proof.Machine
end

