-- ==== Sys2Proof/Laws/PerInstr.lean ====
section
/-! SUPPORT. A statement for every instruction: its encoding has the length the opcode map gives its first byte
(spec 30_encoding.md R90, R100). -/

namespace Sys2Proof.Laws.EncodedLength

open Sys2Proof

/-- When `i` is well formed, its opcode byte has in the map the length `i` has, none for a byte with no handler, and where `i` has
a length its encoding has that many bytes. -/
def Statement (i : Instr) : Prop :=
  i.wf = true → (encode i).head?.map opcodeLength = some i.length ∧ ∀ n, i.length = some n → (encode i).length = n

theorem movBB : Statement .movBB := fun _ => ⟨rfl, fun _ h => Option.some.inj h⟩
theorem movBC : Statement .movBC := fun _ => ⟨rfl, fun _ h => Option.some.inj h⟩
theorem movBD : Statement .movBD := fun _ => ⟨rfl, fun _ h => Option.some.inj h⟩
theorem movBE : Statement .movBE := fun _ => ⟨rfl, fun _ h => Option.some.inj h⟩
theorem movBH : Statement .movBH := fun _ => ⟨rfl, fun _ h => Option.some.inj h⟩
theorem movBL : Statement .movBL := fun _ => ⟨rfl, fun _ h => Option.some.inj h⟩
theorem movBA : Statement .movBA := fun _ => ⟨rfl, fun _ h => Option.some.inj h⟩
theorem movCB : Statement .movCB := fun _ => ⟨rfl, fun _ h => Option.some.inj h⟩
theorem movCC : Statement .movCC := fun _ => ⟨rfl, fun _ h => Option.some.inj h⟩
theorem movCD : Statement .movCD := fun _ => ⟨rfl, fun _ h => Option.some.inj h⟩
theorem movCE : Statement .movCE := fun _ => ⟨rfl, fun _ h => Option.some.inj h⟩
theorem movCH : Statement .movCH := fun _ => ⟨rfl, fun _ h => Option.some.inj h⟩
theorem movCL : Statement .movCL := fun _ => ⟨rfl, fun _ h => Option.some.inj h⟩
theorem movCA : Statement .movCA := fun _ => ⟨rfl, fun _ h => Option.some.inj h⟩
theorem movDB : Statement .movDB := fun _ => ⟨rfl, fun _ h => Option.some.inj h⟩
theorem movDC : Statement .movDC := fun _ => ⟨rfl, fun _ h => Option.some.inj h⟩
theorem movDD : Statement .movDD := fun _ => ⟨rfl, fun _ h => Option.some.inj h⟩
theorem movDE : Statement .movDE := fun _ => ⟨rfl, fun _ h => Option.some.inj h⟩
theorem movDH : Statement .movDH := fun _ => ⟨rfl, fun _ h => Option.some.inj h⟩
theorem movDL : Statement .movDL := fun _ => ⟨rfl, fun _ h => Option.some.inj h⟩
theorem movDA : Statement .movDA := fun _ => ⟨rfl, fun _ h => Option.some.inj h⟩
theorem movEB : Statement .movEB := fun _ => ⟨rfl, fun _ h => Option.some.inj h⟩
theorem movEC : Statement .movEC := fun _ => ⟨rfl, fun _ h => Option.some.inj h⟩
theorem movED : Statement .movED := fun _ => ⟨rfl, fun _ h => Option.some.inj h⟩
theorem movEE : Statement .movEE := fun _ => ⟨rfl, fun _ h => Option.some.inj h⟩
theorem movEH : Statement .movEH := fun _ => ⟨rfl, fun _ h => Option.some.inj h⟩
theorem movEL : Statement .movEL := fun _ => ⟨rfl, fun _ h => Option.some.inj h⟩
theorem movEA : Statement .movEA := fun _ => ⟨rfl, fun _ h => Option.some.inj h⟩
theorem movHB : Statement .movHB := fun _ => ⟨rfl, fun _ h => Option.some.inj h⟩
theorem movHC : Statement .movHC := fun _ => ⟨rfl, fun _ h => Option.some.inj h⟩
theorem movHD : Statement .movHD := fun _ => ⟨rfl, fun _ h => Option.some.inj h⟩
theorem movHE : Statement .movHE := fun _ => ⟨rfl, fun _ h => Option.some.inj h⟩
theorem movHH : Statement .movHH := fun _ => ⟨rfl, fun _ h => Option.some.inj h⟩
theorem movHL : Statement .movHL := fun _ => ⟨rfl, fun _ h => Option.some.inj h⟩
theorem movHA : Statement .movHA := fun _ => ⟨rfl, fun _ h => Option.some.inj h⟩
theorem movLB : Statement .movLB := fun _ => ⟨rfl, fun _ h => Option.some.inj h⟩
theorem movLC : Statement .movLC := fun _ => ⟨rfl, fun _ h => Option.some.inj h⟩
theorem movLD : Statement .movLD := fun _ => ⟨rfl, fun _ h => Option.some.inj h⟩
theorem movLE : Statement .movLE := fun _ => ⟨rfl, fun _ h => Option.some.inj h⟩
theorem movLH : Statement .movLH := fun _ => ⟨rfl, fun _ h => Option.some.inj h⟩
theorem movLL : Statement .movLL := fun _ => ⟨rfl, fun _ h => Option.some.inj h⟩
theorem movLA : Statement .movLA := fun _ => ⟨rfl, fun _ h => Option.some.inj h⟩
theorem movAB : Statement .movAB := fun _ => ⟨rfl, fun _ h => Option.some.inj h⟩
theorem movAC : Statement .movAC := fun _ => ⟨rfl, fun _ h => Option.some.inj h⟩
theorem movAD : Statement .movAD := fun _ => ⟨rfl, fun _ h => Option.some.inj h⟩
theorem movAE : Statement .movAE := fun _ => ⟨rfl, fun _ h => Option.some.inj h⟩
theorem movAH : Statement .movAH := fun _ => ⟨rfl, fun _ h => Option.some.inj h⟩
theorem movAL : Statement .movAL := fun _ => ⟨rfl, fun _ h => Option.some.inj h⟩
theorem movAA : Statement .movAA := fun _ => ⟨rfl, fun _ h => Option.some.inj h⟩
theorem movBM : Statement .movBM := fun _ => ⟨rfl, fun _ h => Option.some.inj h⟩
theorem movCM : Statement .movCM := fun _ => ⟨rfl, fun _ h => Option.some.inj h⟩
theorem movDM : Statement .movDM := fun _ => ⟨rfl, fun _ h => Option.some.inj h⟩
theorem movEM : Statement .movEM := fun _ => ⟨rfl, fun _ h => Option.some.inj h⟩
theorem movHM : Statement .movHM := fun _ => ⟨rfl, fun _ h => Option.some.inj h⟩
theorem movLM : Statement .movLM := fun _ => ⟨rfl, fun _ h => Option.some.inj h⟩
theorem movAM : Statement .movAM := fun _ => ⟨rfl, fun _ h => Option.some.inj h⟩
theorem movMB : Statement .movMB := fun _ => ⟨rfl, fun _ h => Option.some.inj h⟩
theorem movMC : Statement .movMC := fun _ => ⟨rfl, fun _ h => Option.some.inj h⟩
theorem movMD : Statement .movMD := fun _ => ⟨rfl, fun _ h => Option.some.inj h⟩
theorem movME : Statement .movME := fun _ => ⟨rfl, fun _ h => Option.some.inj h⟩
theorem movMH : Statement .movMH := fun _ => ⟨rfl, fun _ h => Option.some.inj h⟩
theorem movML : Statement .movML := fun _ => ⟨rfl, fun _ h => Option.some.inj h⟩
theorem movMA : Statement .movMA := fun _ => ⟨rfl, fun _ h => Option.some.inj h⟩
theorem mviB (imm : Byte) : Statement (.mviB imm) := fun _ => ⟨rfl, fun _ h => Option.some.inj h⟩
theorem mviC (imm : Byte) : Statement (.mviC imm) := fun _ => ⟨rfl, fun _ h => Option.some.inj h⟩
theorem mviD (imm : Byte) : Statement (.mviD imm) := fun _ => ⟨rfl, fun _ h => Option.some.inj h⟩
theorem mviE (imm : Byte) : Statement (.mviE imm) := fun _ => ⟨rfl, fun _ h => Option.some.inj h⟩
theorem mviH (imm : Byte) : Statement (.mviH imm) := fun _ => ⟨rfl, fun _ h => Option.some.inj h⟩
theorem mviL (imm : Byte) : Statement (.mviL imm) := fun _ => ⟨rfl, fun _ h => Option.some.inj h⟩
theorem mviA (imm : Byte) : Statement (.mviA imm) := fun _ => ⟨rfl, fun _ h => Option.some.inj h⟩
theorem mviM (imm : Byte) : Statement (.mviM imm) := fun _ => ⟨rfl, fun _ h => Option.some.inj h⟩
theorem lxiB (imm : Addr) : Statement (.lxiB imm) := fun _ => ⟨rfl, fun _ h => Option.some.inj h⟩
theorem lxiD (imm : Addr) : Statement (.lxiD imm) := fun _ => ⟨rfl, fun _ h => Option.some.inj h⟩
theorem lxiH (imm : Addr) : Statement (.lxiH imm) := fun _ => ⟨rfl, fun _ h => Option.some.inj h⟩
theorem lxiSP (imm : Addr) : Statement (.lxiSP imm) := fun _ => ⟨rfl, fun _ h => Option.some.inj h⟩
theorem lda (addr : Addr) : Statement (.lda addr) := fun _ => ⟨rfl, fun _ h => Option.some.inj h⟩
theorem sta (addr : Addr) : Statement (.sta addr) := fun _ => ⟨rfl, fun _ h => Option.some.inj h⟩
theorem lhld (addr : Addr) : Statement (.lhld addr) := fun _ => ⟨rfl, fun _ h => Option.some.inj h⟩
theorem shld (addr : Addr) : Statement (.shld addr) := fun _ => ⟨rfl, fun _ h => Option.some.inj h⟩
theorem ldaxB : Statement .ldaxB := fun _ => ⟨rfl, fun _ h => Option.some.inj h⟩
theorem ldaxD : Statement .ldaxD := fun _ => ⟨rfl, fun _ h => Option.some.inj h⟩
theorem staxB : Statement .staxB := fun _ => ⟨rfl, fun _ h => Option.some.inj h⟩
theorem staxD : Statement .staxD := fun _ => ⟨rfl, fun _ h => Option.some.inj h⟩
theorem xchg : Statement .xchg := fun _ => ⟨rfl, fun _ h => Option.some.inj h⟩
theorem sphl : Statement .sphl := fun _ => ⟨rfl, fun _ h => Option.some.inj h⟩
theorem addB : Statement .addB := fun _ => ⟨rfl, fun _ h => Option.some.inj h⟩
theorem addC : Statement .addC := fun _ => ⟨rfl, fun _ h => Option.some.inj h⟩
theorem addD : Statement .addD := fun _ => ⟨rfl, fun _ h => Option.some.inj h⟩
theorem addE : Statement .addE := fun _ => ⟨rfl, fun _ h => Option.some.inj h⟩
theorem addH : Statement .addH := fun _ => ⟨rfl, fun _ h => Option.some.inj h⟩
theorem addL : Statement .addL := fun _ => ⟨rfl, fun _ h => Option.some.inj h⟩
theorem addA : Statement .addA := fun _ => ⟨rfl, fun _ h => Option.some.inj h⟩
theorem addM : Statement .addM := fun _ => ⟨rfl, fun _ h => Option.some.inj h⟩
theorem adi (imm : Byte) : Statement (.adi imm) := fun _ => ⟨rfl, fun _ h => Option.some.inj h⟩
theorem adcB : Statement .adcB := fun _ => ⟨rfl, fun _ h => Option.some.inj h⟩
theorem adcC : Statement .adcC := fun _ => ⟨rfl, fun _ h => Option.some.inj h⟩
theorem adcD : Statement .adcD := fun _ => ⟨rfl, fun _ h => Option.some.inj h⟩
theorem adcE : Statement .adcE := fun _ => ⟨rfl, fun _ h => Option.some.inj h⟩
theorem adcH : Statement .adcH := fun _ => ⟨rfl, fun _ h => Option.some.inj h⟩
theorem adcL : Statement .adcL := fun _ => ⟨rfl, fun _ h => Option.some.inj h⟩
theorem adcA : Statement .adcA := fun _ => ⟨rfl, fun _ h => Option.some.inj h⟩
theorem adcM : Statement .adcM := fun _ => ⟨rfl, fun _ h => Option.some.inj h⟩
theorem aci (imm : Byte) : Statement (.aci imm) := fun _ => ⟨rfl, fun _ h => Option.some.inj h⟩
theorem subB : Statement .subB := fun _ => ⟨rfl, fun _ h => Option.some.inj h⟩
theorem subC : Statement .subC := fun _ => ⟨rfl, fun _ h => Option.some.inj h⟩
theorem subD : Statement .subD := fun _ => ⟨rfl, fun _ h => Option.some.inj h⟩
theorem subE : Statement .subE := fun _ => ⟨rfl, fun _ h => Option.some.inj h⟩
theorem subH : Statement .subH := fun _ => ⟨rfl, fun _ h => Option.some.inj h⟩
theorem subL : Statement .subL := fun _ => ⟨rfl, fun _ h => Option.some.inj h⟩
theorem subA : Statement .subA := fun _ => ⟨rfl, fun _ h => Option.some.inj h⟩
theorem subM : Statement .subM := fun _ => ⟨rfl, fun _ h => Option.some.inj h⟩
theorem sui (imm : Byte) : Statement (.sui imm) := fun _ => ⟨rfl, fun _ h => Option.some.inj h⟩
theorem sbbB : Statement .sbbB := fun _ => ⟨rfl, fun _ h => Option.some.inj h⟩
theorem sbbC : Statement .sbbC := fun _ => ⟨rfl, fun _ h => Option.some.inj h⟩
theorem sbbD : Statement .sbbD := fun _ => ⟨rfl, fun _ h => Option.some.inj h⟩
theorem sbbE : Statement .sbbE := fun _ => ⟨rfl, fun _ h => Option.some.inj h⟩
theorem sbbH : Statement .sbbH := fun _ => ⟨rfl, fun _ h => Option.some.inj h⟩
theorem sbbL : Statement .sbbL := fun _ => ⟨rfl, fun _ h => Option.some.inj h⟩
theorem sbbA : Statement .sbbA := fun _ => ⟨rfl, fun _ h => Option.some.inj h⟩
theorem sbbM : Statement .sbbM := fun _ => ⟨rfl, fun _ h => Option.some.inj h⟩
theorem sbi (imm : Byte) : Statement (.sbi imm) := fun _ => ⟨rfl, fun _ h => Option.some.inj h⟩
theorem inrB : Statement .inrB := fun _ => ⟨rfl, fun _ h => Option.some.inj h⟩
theorem inrC : Statement .inrC := fun _ => ⟨rfl, fun _ h => Option.some.inj h⟩
theorem inrD : Statement .inrD := fun _ => ⟨rfl, fun _ h => Option.some.inj h⟩
theorem inrE : Statement .inrE := fun _ => ⟨rfl, fun _ h => Option.some.inj h⟩
theorem inrH : Statement .inrH := fun _ => ⟨rfl, fun _ h => Option.some.inj h⟩
theorem inrL : Statement .inrL := fun _ => ⟨rfl, fun _ h => Option.some.inj h⟩
theorem inrA : Statement .inrA := fun _ => ⟨rfl, fun _ h => Option.some.inj h⟩
theorem inrM : Statement .inrM := fun _ => ⟨rfl, fun _ h => Option.some.inj h⟩
theorem dcrB : Statement .dcrB := fun _ => ⟨rfl, fun _ h => Option.some.inj h⟩
theorem dcrC : Statement .dcrC := fun _ => ⟨rfl, fun _ h => Option.some.inj h⟩
theorem dcrD : Statement .dcrD := fun _ => ⟨rfl, fun _ h => Option.some.inj h⟩
theorem dcrE : Statement .dcrE := fun _ => ⟨rfl, fun _ h => Option.some.inj h⟩
theorem dcrH : Statement .dcrH := fun _ => ⟨rfl, fun _ h => Option.some.inj h⟩
theorem dcrL : Statement .dcrL := fun _ => ⟨rfl, fun _ h => Option.some.inj h⟩
theorem dcrA : Statement .dcrA := fun _ => ⟨rfl, fun _ h => Option.some.inj h⟩
theorem dcrM : Statement .dcrM := fun _ => ⟨rfl, fun _ h => Option.some.inj h⟩
theorem inxB : Statement .inxB := fun _ => ⟨rfl, fun _ h => Option.some.inj h⟩
theorem inxD : Statement .inxD := fun _ => ⟨rfl, fun _ h => Option.some.inj h⟩
theorem inxH : Statement .inxH := fun _ => ⟨rfl, fun _ h => Option.some.inj h⟩
theorem inxSP : Statement .inxSP := fun _ => ⟨rfl, fun _ h => Option.some.inj h⟩
theorem dcxB : Statement .dcxB := fun _ => ⟨rfl, fun _ h => Option.some.inj h⟩
theorem dcxD : Statement .dcxD := fun _ => ⟨rfl, fun _ h => Option.some.inj h⟩
theorem dcxH : Statement .dcxH := fun _ => ⟨rfl, fun _ h => Option.some.inj h⟩
theorem dcxSP : Statement .dcxSP := fun _ => ⟨rfl, fun _ h => Option.some.inj h⟩
theorem dadB : Statement .dadB := fun _ => ⟨rfl, fun _ h => Option.some.inj h⟩
theorem dadD : Statement .dadD := fun _ => ⟨rfl, fun _ h => Option.some.inj h⟩
theorem dadH : Statement .dadH := fun _ => ⟨rfl, fun _ h => Option.some.inj h⟩
theorem dadSP : Statement .dadSP := fun _ => ⟨rfl, fun _ h => Option.some.inj h⟩
theorem anaB : Statement .anaB := fun _ => ⟨rfl, fun _ h => Option.some.inj h⟩
theorem anaC : Statement .anaC := fun _ => ⟨rfl, fun _ h => Option.some.inj h⟩
theorem anaD : Statement .anaD := fun _ => ⟨rfl, fun _ h => Option.some.inj h⟩
theorem anaE : Statement .anaE := fun _ => ⟨rfl, fun _ h => Option.some.inj h⟩
theorem anaH : Statement .anaH := fun _ => ⟨rfl, fun _ h => Option.some.inj h⟩
theorem anaL : Statement .anaL := fun _ => ⟨rfl, fun _ h => Option.some.inj h⟩
theorem anaA : Statement .anaA := fun _ => ⟨rfl, fun _ h => Option.some.inj h⟩
theorem anaM : Statement .anaM := fun _ => ⟨rfl, fun _ h => Option.some.inj h⟩
theorem ani (imm : Byte) : Statement (.ani imm) := fun _ => ⟨rfl, fun _ h => Option.some.inj h⟩
theorem xraB : Statement .xraB := fun _ => ⟨rfl, fun _ h => Option.some.inj h⟩
theorem xraC : Statement .xraC := fun _ => ⟨rfl, fun _ h => Option.some.inj h⟩
theorem xraD : Statement .xraD := fun _ => ⟨rfl, fun _ h => Option.some.inj h⟩
theorem xraE : Statement .xraE := fun _ => ⟨rfl, fun _ h => Option.some.inj h⟩
theorem xraH : Statement .xraH := fun _ => ⟨rfl, fun _ h => Option.some.inj h⟩
theorem xraL : Statement .xraL := fun _ => ⟨rfl, fun _ h => Option.some.inj h⟩
theorem xraA : Statement .xraA := fun _ => ⟨rfl, fun _ h => Option.some.inj h⟩
theorem xraM : Statement .xraM := fun _ => ⟨rfl, fun _ h => Option.some.inj h⟩
theorem xri (imm : Byte) : Statement (.xri imm) := fun _ => ⟨rfl, fun _ h => Option.some.inj h⟩
theorem oraB : Statement .oraB := fun _ => ⟨rfl, fun _ h => Option.some.inj h⟩
theorem oraC : Statement .oraC := fun _ => ⟨rfl, fun _ h => Option.some.inj h⟩
theorem oraD : Statement .oraD := fun _ => ⟨rfl, fun _ h => Option.some.inj h⟩
theorem oraE : Statement .oraE := fun _ => ⟨rfl, fun _ h => Option.some.inj h⟩
theorem oraH : Statement .oraH := fun _ => ⟨rfl, fun _ h => Option.some.inj h⟩
theorem oraL : Statement .oraL := fun _ => ⟨rfl, fun _ h => Option.some.inj h⟩
theorem oraA : Statement .oraA := fun _ => ⟨rfl, fun _ h => Option.some.inj h⟩
theorem oraM : Statement .oraM := fun _ => ⟨rfl, fun _ h => Option.some.inj h⟩
theorem ori (imm : Byte) : Statement (.ori imm) := fun _ => ⟨rfl, fun _ h => Option.some.inj h⟩
theorem cmpB : Statement .cmpB := fun _ => ⟨rfl, fun _ h => Option.some.inj h⟩
theorem cmpC : Statement .cmpC := fun _ => ⟨rfl, fun _ h => Option.some.inj h⟩
theorem cmpD : Statement .cmpD := fun _ => ⟨rfl, fun _ h => Option.some.inj h⟩
theorem cmpE : Statement .cmpE := fun _ => ⟨rfl, fun _ h => Option.some.inj h⟩
theorem cmpH : Statement .cmpH := fun _ => ⟨rfl, fun _ h => Option.some.inj h⟩
theorem cmpL : Statement .cmpL := fun _ => ⟨rfl, fun _ h => Option.some.inj h⟩
theorem cmpA : Statement .cmpA := fun _ => ⟨rfl, fun _ h => Option.some.inj h⟩
theorem cmpM : Statement .cmpM := fun _ => ⟨rfl, fun _ h => Option.some.inj h⟩
theorem cpi (imm : Byte) : Statement (.cpi imm) := fun _ => ⟨rfl, fun _ h => Option.some.inj h⟩
theorem rlc : Statement .rlc := fun _ => ⟨rfl, fun _ h => Option.some.inj h⟩
theorem rrc : Statement .rrc := fun _ => ⟨rfl, fun _ h => Option.some.inj h⟩
theorem ral : Statement .ral := fun _ => ⟨rfl, fun _ h => Option.some.inj h⟩
theorem rar : Statement .rar := fun _ => ⟨rfl, fun _ h => Option.some.inj h⟩
theorem cma : Statement .cma := fun _ => ⟨rfl, fun _ h => Option.some.inj h⟩
theorem stc : Statement .stc := fun _ => ⟨rfl, fun _ h => Option.some.inj h⟩
theorem cmc : Statement .cmc := fun _ => ⟨rfl, fun _ h => Option.some.inj h⟩
theorem jmp (addr : Addr) : Statement (.jmp addr) := fun _ => ⟨rfl, fun _ h => Option.some.inj h⟩
theorem jnz (addr : Addr) : Statement (.jnz addr) := fun _ => ⟨rfl, fun _ h => Option.some.inj h⟩
theorem jz (addr : Addr) : Statement (.jz addr) := fun _ => ⟨rfl, fun _ h => Option.some.inj h⟩
theorem jnc (addr : Addr) : Statement (.jnc addr) := fun _ => ⟨rfl, fun _ h => Option.some.inj h⟩
theorem jc (addr : Addr) : Statement (.jc addr) := fun _ => ⟨rfl, fun _ h => Option.some.inj h⟩
theorem jpo (addr : Addr) : Statement (.jpo addr) := fun _ => ⟨rfl, fun _ h => Option.some.inj h⟩
theorem jpe (addr : Addr) : Statement (.jpe addr) := fun _ => ⟨rfl, fun _ h => Option.some.inj h⟩
theorem jp (addr : Addr) : Statement (.jp addr) := fun _ => ⟨rfl, fun _ h => Option.some.inj h⟩
theorem jm (addr : Addr) : Statement (.jm addr) := fun _ => ⟨rfl, fun _ h => Option.some.inj h⟩
theorem call (addr : Addr) : Statement (.call addr) := fun _ => ⟨rfl, fun _ h => Option.some.inj h⟩
theorem cnz (addr : Addr) : Statement (.cnz addr) := fun _ => ⟨rfl, fun _ h => Option.some.inj h⟩
theorem cz (addr : Addr) : Statement (.cz addr) := fun _ => ⟨rfl, fun _ h => Option.some.inj h⟩
theorem cnc (addr : Addr) : Statement (.cnc addr) := fun _ => ⟨rfl, fun _ h => Option.some.inj h⟩
theorem cc (addr : Addr) : Statement (.cc addr) := fun _ => ⟨rfl, fun _ h => Option.some.inj h⟩
theorem cpo (addr : Addr) : Statement (.cpo addr) := fun _ => ⟨rfl, fun _ h => Option.some.inj h⟩
theorem cpe (addr : Addr) : Statement (.cpe addr) := fun _ => ⟨rfl, fun _ h => Option.some.inj h⟩
theorem cp (addr : Addr) : Statement (.cp addr) := fun _ => ⟨rfl, fun _ h => Option.some.inj h⟩
theorem cm (addr : Addr) : Statement (.cm addr) := fun _ => ⟨rfl, fun _ h => Option.some.inj h⟩
theorem ret : Statement .ret := fun _ => ⟨rfl, fun _ h => Option.some.inj h⟩
theorem rnz : Statement .rnz := fun _ => ⟨rfl, fun _ h => Option.some.inj h⟩
theorem rz : Statement .rz := fun _ => ⟨rfl, fun _ h => Option.some.inj h⟩
theorem rnc : Statement .rnc := fun _ => ⟨rfl, fun _ h => Option.some.inj h⟩
theorem rc : Statement .rc := fun _ => ⟨rfl, fun _ h => Option.some.inj h⟩
theorem rpo : Statement .rpo := fun _ => ⟨rfl, fun _ h => Option.some.inj h⟩
theorem rpe : Statement .rpe := fun _ => ⟨rfl, fun _ h => Option.some.inj h⟩
theorem rp : Statement .rp := fun _ => ⟨rfl, fun _ h => Option.some.inj h⟩
theorem rm : Statement .rm := fun _ => ⟨rfl, fun _ h => Option.some.inj h⟩
theorem rst0 : Statement .rst0 := fun _ => ⟨rfl, fun _ h => Option.some.inj h⟩
theorem rst1 : Statement .rst1 := fun _ => ⟨rfl, fun _ h => Option.some.inj h⟩
theorem rst2 : Statement .rst2 := fun _ => ⟨rfl, fun _ h => Option.some.inj h⟩
theorem rst3 : Statement .rst3 := fun _ => ⟨rfl, fun _ h => Option.some.inj h⟩
theorem rst4 : Statement .rst4 := fun _ => ⟨rfl, fun _ h => Option.some.inj h⟩
theorem rst5 : Statement .rst5 := fun _ => ⟨rfl, fun _ h => Option.some.inj h⟩
theorem rst6 : Statement .rst6 := fun _ => ⟨rfl, fun _ h => Option.some.inj h⟩
theorem rst7 : Statement .rst7 := fun _ => ⟨rfl, fun _ h => Option.some.inj h⟩
theorem pchl : Statement .pchl := fun _ => ⟨rfl, fun _ h => Option.some.inj h⟩
theorem pushB : Statement .pushB := fun _ => ⟨rfl, fun _ h => Option.some.inj h⟩
theorem pushD : Statement .pushD := fun _ => ⟨rfl, fun _ h => Option.some.inj h⟩
theorem pushH : Statement .pushH := fun _ => ⟨rfl, fun _ h => Option.some.inj h⟩
theorem pushPsw : Statement .pushPsw := fun _ => ⟨rfl, fun _ h => Option.some.inj h⟩
theorem popB : Statement .popB := fun _ => ⟨rfl, fun _ h => Option.some.inj h⟩
theorem popD : Statement .popD := fun _ => ⟨rfl, fun _ h => Option.some.inj h⟩
theorem popH : Statement .popH := fun _ => ⟨rfl, fun _ h => Option.some.inj h⟩
theorem popPsw : Statement .popPsw := fun _ => ⟨rfl, fun _ h => Option.some.inj h⟩
theorem xthl : Statement .xthl := fun _ => ⟨rfl, fun _ h => Option.some.inj h⟩
theorem inP8 (port : Byte) : Statement (.inP8 port) := fun _ => ⟨rfl, fun _ h => Option.some.inj h⟩
theorem outP8 (port : Byte) : Statement (.outP8 port) := fun _ => ⟨rfl, fun _ h => Option.some.inj h⟩
theorem ei : Statement .ei := fun _ => ⟨rfl, fun _ h => Option.some.inj h⟩
theorem di : Statement .di := fun _ => ⟨rfl, fun _ h => Option.some.inj h⟩
theorem hlt : Statement .hlt := fun _ => ⟨rfl, fun _ h => Option.some.inj h⟩
theorem nop : Statement .nop := fun _ => ⟨rfl, fun _ h => Option.some.inj h⟩
theorem noInstruction (opcode : Byte) : Statement (.noInstruction opcode) := by
  intro h
  refine ⟨?_, fun n hn => nomatch hn⟩
  have all : ∀ op ∈ illegalBytes, opcodeLength op = none := by decide
  exact congrArg some (all opcode (List.contains_iff_mem.mp h))


end Sys2Proof.Laws.EncodedLength
end

