-- ==== Sys2Proof/Laws/Run.lean ====
section
/-! SUPPORT. What a step's report says about the step, for proofs about the run loop. -/

namespace Sys2Proof.Machine

open Sys2Proof

/-- A report of Normal or Halt carries the state of the step. -/
theorem step_of_stepReport (s t : State) (c : Nat) (h : stepReport s = .normal c t ∨ stepReport s = .halt c t) :
    step s = .next t := by
  revert h
  unfold stepReport
  cases step s with
  | next u => simp only; split <;> simp
  | fault f => cases f; simp
  | refused r => simp

/-- A step that answers a next state is reported as Normal or Halt with that state and the cost before it. -/
theorem stepReport_of_step (s t : State) (h : step s = .next t) :
    stepReport s = .normal ((cost s).getD 0) t ∨ stepReport s = .halt ((cost s).getD 0) t := by
  unfold stepReport
  rw [h]
  simp only
  split
  · exact .inr rfl
  · exact .inl rfl

end Sys2Proof.Machine
end

