-- ==== Sys2Proof/Tests/Slice0.lean ====
section
/-! SUPPORT. The model's own tests. Every expected value is the spec's: the opcode bits of 30_encoding.md R91 and R99, the
vectors of 95_test_vectors.md (each theorem names them), the cycle table of R125. The `witness_` theorems show states and
operands that meet the hypotheses of a statement, clause by clause. -/

namespace Sys2Proof.Tests

open Sys2Proof Sys2Proof.Machine Sys2Proof.Claims

/-! ### Well-formedness -/

/-- 0x00 is NOP, so it is no byte without a handler: the term is ill formed. -/
theorem test_wf_refuses_a_byte_with_a_handler : (Instr.noInstruction 0x00).wf = false := by decide

/-- 0xFF is RST 7 (C5), and 0x09, the neighbour of 0x08, is DAD B. -/
theorem test_wf_refuses_neighbours : (Instr.noInstruction 0xFF).wf = false ∧ (Instr.noInstruction 0x09).wf = false := by
  decide

/-- R101: 0x27 is one of the thirteen; every operand of an instruction is legal (R102). -/
theorem test_wf_accepts : (Instr.noInstruction 0x27).wf = true ∧ (Instr.jmp 0xFFFF).wf = true ∧ (Instr.mviM 0xFF).wf = true := by
  decide

/-! ### Decoding: the word of every constructor, from the bits of R91, R93, R94, R97, R98

A 2-byte instruction is given the operand byte 0x34, a 3-byte one the bytes 0x34 0x12, which are the operand 0x1234 (R96). -/

/-- The bytes decode to the instruction, and the byte after them is left. -/
def decodesTo (bytes : List Byte) (i : Instr) : Bool := decode (bytes ++ [0xAB]) == .ok i [0xAB]

/-- 6 rows of spec/opcode_table.json. -/
theorem test_decode_io_control : (
    decodesTo [0b00000000] .nop && decodesTo [0b01110110] .hlt && decodesTo [0b11010011, 0x34] (.outP8 0x34)
    && decodesTo [0b11011011, 0x34] (.inP8 0x34) && decodesTo [0b11110011] .di && decodesTo [0b11111011] .ei) = true :=
  by decide

/-- 4 rows of spec/opcode_table.json. -/
theorem test_decode_lxi : (
    decodesTo [0b00000001, 0x34, 0x12] (.lxiB 0x1234) && decodesTo [0b00010001, 0x34, 0x12] (.lxiD 0x1234)
    && decodesTo [0b00100001, 0x34, 0x12] (.lxiH 0x1234) && decodesTo [0b00110001, 0x34, 0x12] (.lxiSP 0x1234)) = true :=
  by decide

/-- 10 rows of spec/opcode_table.json. -/
theorem test_decode_transfer : (
    decodesTo [0b00000010] .staxB && decodesTo [0b00001010] .ldaxB && decodesTo [0b00010010] .staxD
    && decodesTo [0b00011010] .ldaxD && decodesTo [0b00100010, 0x34, 0x12] (.shld 0x1234)
    && decodesTo [0b00101010, 0x34, 0x12] (.lhld 0x1234) && decodesTo [0b00110010, 0x34, 0x12] (.sta 0x1234)
    && decodesTo [0b00111010, 0x34, 0x12] (.lda 0x1234) && decodesTo [0b11101011] .xchg
    && decodesTo [0b11111001] .sphl) = true := by decide

/-- 12 rows of spec/opcode_table.json. -/
theorem test_decode_pair_arithmetic : (
    decodesTo [0b00000011] .inxB && decodesTo [0b00001001] .dadB && decodesTo [0b00001011] .dcxB
    && decodesTo [0b00010011] .inxD && decodesTo [0b00011001] .dadD && decodesTo [0b00011011] .dcxD
    && decodesTo [0b00100011] .inxH && decodesTo [0b00101001] .dadH && decodesTo [0b00101011] .dcxH
    && decodesTo [0b00110011] .inxSP && decodesTo [0b00111001] .dadSP && decodesTo [0b00111011] .dcxSP) = true :=
  by decide

/-- 8 rows of spec/opcode_table.json. -/
theorem test_decode_inr : (
    decodesTo [0b00000100] .inrB && decodesTo [0b00001100] .inrC && decodesTo [0b00010100] .inrD
    && decodesTo [0b00011100] .inrE && decodesTo [0b00100100] .inrH && decodesTo [0b00101100] .inrL
    && decodesTo [0b00110100] .inrM && decodesTo [0b00111100] .inrA) = true := by decide

/-- 8 rows of spec/opcode_table.json. -/
theorem test_decode_dcr : (
    decodesTo [0b00000101] .dcrB && decodesTo [0b00001101] .dcrC && decodesTo [0b00010101] .dcrD
    && decodesTo [0b00011101] .dcrE && decodesTo [0b00100101] .dcrH && decodesTo [0b00101101] .dcrL
    && decodesTo [0b00110101] .dcrM && decodesTo [0b00111101] .dcrA) = true := by decide

/-- 8 rows of spec/opcode_table.json. -/
theorem test_decode_mvi : (
    decodesTo [0b00000110, 0x34] (.mviB 0x34) && decodesTo [0b00001110, 0x34] (.mviC 0x34)
    && decodesTo [0b00010110, 0x34] (.mviD 0x34) && decodesTo [0b00011110, 0x34] (.mviE 0x34)
    && decodesTo [0b00100110, 0x34] (.mviH 0x34) && decodesTo [0b00101110, 0x34] (.mviL 0x34)
    && decodesTo [0b00110110, 0x34] (.mviM 0x34) && decodesTo [0b00111110, 0x34] (.mviA 0x34)) = true := by decide

/-- 7 rows of spec/opcode_table.json. -/
theorem test_decode_rotate_and_carry : (
    decodesTo [0b00000111] .rlc && decodesTo [0b00001111] .rrc && decodesTo [0b00010111] .ral
    && decodesTo [0b00011111] .rar && decodesTo [0b00101111] .cma && decodesTo [0b00110111] .stc
    && decodesTo [0b00111111] .cmc) = true := by decide

/-- 13 rows of spec/opcode_table.json. -/
theorem test_decode_no_handler : (
    decodesTo [0b00001000] (.noInstruction 0b00001000) && decodesTo [0b00010000] (.noInstruction 0b00010000)
    && decodesTo [0b00011000] (.noInstruction 0b00011000) && decodesTo [0b00100000] (.noInstruction 0b00100000)
    && decodesTo [0b00100111] (.noInstruction 0b00100111) && decodesTo [0b00101000] (.noInstruction 0b00101000)
    && decodesTo [0b00110000] (.noInstruction 0b00110000) && decodesTo [0b00111000] (.noInstruction 0b00111000)
    && decodesTo [0b11001011] (.noInstruction 0b11001011) && decodesTo [0b11011001] (.noInstruction 0b11011001)
    && decodesTo [0b11011101] (.noInstruction 0b11011101) && decodesTo [0b11101101] (.noInstruction 0b11101101)
    && decodesTo [0b11111101] (.noInstruction 0b11111101)) = true := by decide

/-- 8 rows of spec/opcode_table.json. -/
theorem test_decode_mov_to_b : (
    decodesTo [0b01000000] .movBB && decodesTo [0b01000001] .movBC && decodesTo [0b01000010] .movBD
    && decodesTo [0b01000011] .movBE && decodesTo [0b01000100] .movBH && decodesTo [0b01000101] .movBL
    && decodesTo [0b01000110] .movBM && decodesTo [0b01000111] .movBA) = true := by decide

/-- 8 rows of spec/opcode_table.json. -/
theorem test_decode_mov_to_c : (
    decodesTo [0b01001000] .movCB && decodesTo [0b01001001] .movCC && decodesTo [0b01001010] .movCD
    && decodesTo [0b01001011] .movCE && decodesTo [0b01001100] .movCH && decodesTo [0b01001101] .movCL
    && decodesTo [0b01001110] .movCM && decodesTo [0b01001111] .movCA) = true := by decide

/-- 8 rows of spec/opcode_table.json. -/
theorem test_decode_mov_to_d : (
    decodesTo [0b01010000] .movDB && decodesTo [0b01010001] .movDC && decodesTo [0b01010010] .movDD
    && decodesTo [0b01010011] .movDE && decodesTo [0b01010100] .movDH && decodesTo [0b01010101] .movDL
    && decodesTo [0b01010110] .movDM && decodesTo [0b01010111] .movDA) = true := by decide

/-- 8 rows of spec/opcode_table.json. -/
theorem test_decode_mov_to_e : (
    decodesTo [0b01011000] .movEB && decodesTo [0b01011001] .movEC && decodesTo [0b01011010] .movED
    && decodesTo [0b01011011] .movEE && decodesTo [0b01011100] .movEH && decodesTo [0b01011101] .movEL
    && decodesTo [0b01011110] .movEM && decodesTo [0b01011111] .movEA) = true := by decide

/-- 8 rows of spec/opcode_table.json. -/
theorem test_decode_mov_to_h : (
    decodesTo [0b01100000] .movHB && decodesTo [0b01100001] .movHC && decodesTo [0b01100010] .movHD
    && decodesTo [0b01100011] .movHE && decodesTo [0b01100100] .movHH && decodesTo [0b01100101] .movHL
    && decodesTo [0b01100110] .movHM && decodesTo [0b01100111] .movHA) = true := by decide

/-- 8 rows of spec/opcode_table.json. -/
theorem test_decode_mov_to_l : (
    decodesTo [0b01101000] .movLB && decodesTo [0b01101001] .movLC && decodesTo [0b01101010] .movLD
    && decodesTo [0b01101011] .movLE && decodesTo [0b01101100] .movLH && decodesTo [0b01101101] .movLL
    && decodesTo [0b01101110] .movLM && decodesTo [0b01101111] .movLA) = true := by decide

/-- 7 rows of spec/opcode_table.json. -/
theorem test_decode_mov_to_m : (
    decodesTo [0b01110000] .movMB && decodesTo [0b01110001] .movMC && decodesTo [0b01110010] .movMD
    && decodesTo [0b01110011] .movME && decodesTo [0b01110100] .movMH && decodesTo [0b01110101] .movML
    && decodesTo [0b01110111] .movMA) = true := by decide

/-- 8 rows of spec/opcode_table.json. -/
theorem test_decode_mov_to_a : (
    decodesTo [0b01111000] .movAB && decodesTo [0b01111001] .movAC && decodesTo [0b01111010] .movAD
    && decodesTo [0b01111011] .movAE && decodesTo [0b01111100] .movAH && decodesTo [0b01111101] .movAL
    && decodesTo [0b01111110] .movAM && decodesTo [0b01111111] .movAA) = true := by decide

/-- 8 rows of spec/opcode_table.json. -/
theorem test_decode_add : (
    decodesTo [0b10000000] .addB && decodesTo [0b10000001] .addC && decodesTo [0b10000010] .addD
    && decodesTo [0b10000011] .addE && decodesTo [0b10000100] .addH && decodesTo [0b10000101] .addL
    && decodesTo [0b10000110] .addM && decodesTo [0b10000111] .addA) = true := by decide

/-- 8 rows of spec/opcode_table.json. -/
theorem test_decode_adc : (
    decodesTo [0b10001000] .adcB && decodesTo [0b10001001] .adcC && decodesTo [0b10001010] .adcD
    && decodesTo [0b10001011] .adcE && decodesTo [0b10001100] .adcH && decodesTo [0b10001101] .adcL
    && decodesTo [0b10001110] .adcM && decodesTo [0b10001111] .adcA) = true := by decide

/-- 8 rows of spec/opcode_table.json. -/
theorem test_decode_sub : (
    decodesTo [0b10010000] .subB && decodesTo [0b10010001] .subC && decodesTo [0b10010010] .subD
    && decodesTo [0b10010011] .subE && decodesTo [0b10010100] .subH && decodesTo [0b10010101] .subL
    && decodesTo [0b10010110] .subM && decodesTo [0b10010111] .subA) = true := by decide

/-- 8 rows of spec/opcode_table.json. -/
theorem test_decode_sbb : (
    decodesTo [0b10011000] .sbbB && decodesTo [0b10011001] .sbbC && decodesTo [0b10011010] .sbbD
    && decodesTo [0b10011011] .sbbE && decodesTo [0b10011100] .sbbH && decodesTo [0b10011101] .sbbL
    && decodesTo [0b10011110] .sbbM && decodesTo [0b10011111] .sbbA) = true := by decide

/-- 8 rows of spec/opcode_table.json. -/
theorem test_decode_ana : (
    decodesTo [0b10100000] .anaB && decodesTo [0b10100001] .anaC && decodesTo [0b10100010] .anaD
    && decodesTo [0b10100011] .anaE && decodesTo [0b10100100] .anaH && decodesTo [0b10100101] .anaL
    && decodesTo [0b10100110] .anaM && decodesTo [0b10100111] .anaA) = true := by decide

/-- 8 rows of spec/opcode_table.json. -/
theorem test_decode_xra : (
    decodesTo [0b10101000] .xraB && decodesTo [0b10101001] .xraC && decodesTo [0b10101010] .xraD
    && decodesTo [0b10101011] .xraE && decodesTo [0b10101100] .xraH && decodesTo [0b10101101] .xraL
    && decodesTo [0b10101110] .xraM && decodesTo [0b10101111] .xraA) = true := by decide

/-- 8 rows of spec/opcode_table.json. -/
theorem test_decode_ora : (
    decodesTo [0b10110000] .oraB && decodesTo [0b10110001] .oraC && decodesTo [0b10110010] .oraD
    && decodesTo [0b10110011] .oraE && decodesTo [0b10110100] .oraH && decodesTo [0b10110101] .oraL
    && decodesTo [0b10110110] .oraM && decodesTo [0b10110111] .oraA) = true := by decide

/-- 8 rows of spec/opcode_table.json. -/
theorem test_decode_cmp : (
    decodesTo [0b10111000] .cmpB && decodesTo [0b10111001] .cmpC && decodesTo [0b10111010] .cmpD
    && decodesTo [0b10111011] .cmpE && decodesTo [0b10111100] .cmpH && decodesTo [0b10111101] .cmpL
    && decodesTo [0b10111110] .cmpM && decodesTo [0b10111111] .cmpA) = true := by decide

/-- 8 rows of spec/opcode_table.json. -/
theorem test_decode_rcc : (
    decodesTo [0b11000000] .rnz && decodesTo [0b11001000] .rz && decodesTo [0b11010000] .rnc
    && decodesTo [0b11011000] .rc && decodesTo [0b11100000] .rpo && decodesTo [0b11101000] .rpe
    && decodesTo [0b11110000] .rp && decodesTo [0b11111000] .rm) = true := by decide

/-- 9 rows of spec/opcode_table.json. -/
theorem test_decode_stack : (
    decodesTo [0b11000001] .popB && decodesTo [0b11000101] .pushB && decodesTo [0b11010001] .popD
    && decodesTo [0b11010101] .pushD && decodesTo [0b11100001] .popH && decodesTo [0b11100011] .xthl
    && decodesTo [0b11100101] .pushH && decodesTo [0b11110001] .popPsw && decodesTo [0b11110101] .pushPsw) = true :=
  by decide

/-- 8 rows of spec/opcode_table.json. -/
theorem test_decode_jcc : (
    decodesTo [0b11000010, 0x34, 0x12] (.jnz 0x1234) && decodesTo [0b11001010, 0x34, 0x12] (.jz 0x1234)
    && decodesTo [0b11010010, 0x34, 0x12] (.jnc 0x1234) && decodesTo [0b11011010, 0x34, 0x12] (.jc 0x1234)
    && decodesTo [0b11100010, 0x34, 0x12] (.jpo 0x1234) && decodesTo [0b11101010, 0x34, 0x12] (.jpe 0x1234)
    && decodesTo [0b11110010, 0x34, 0x12] (.jp 0x1234) && decodesTo [0b11111010, 0x34, 0x12] (.jm 0x1234)) = true :=
  by decide

/-- 4 rows of spec/opcode_table.json. -/
theorem test_decode_jump_call_return : (
    decodesTo [0b11000011, 0x34, 0x12] (.jmp 0x1234) && decodesTo [0b11001001] .ret
    && decodesTo [0b11001101, 0x34, 0x12] (.call 0x1234) && decodesTo [0b11101001] .pchl) = true := by decide

/-- 8 rows of spec/opcode_table.json. -/
theorem test_decode_ccc : (
    decodesTo [0b11000100, 0x34, 0x12] (.cnz 0x1234) && decodesTo [0b11001100, 0x34, 0x12] (.cz 0x1234)
    && decodesTo [0b11010100, 0x34, 0x12] (.cnc 0x1234) && decodesTo [0b11011100, 0x34, 0x12] (.cc 0x1234)
    && decodesTo [0b11100100, 0x34, 0x12] (.cpo 0x1234) && decodesTo [0b11101100, 0x34, 0x12] (.cpe 0x1234)
    && decodesTo [0b11110100, 0x34, 0x12] (.cp 0x1234) && decodesTo [0b11111100, 0x34, 0x12] (.cm 0x1234)) = true :=
  by decide

/-- 8 rows of spec/opcode_table.json. -/
theorem test_decode_alu_immediate : (
    decodesTo [0b11000110, 0x34] (.adi 0x34) && decodesTo [0b11001110, 0x34] (.aci 0x34)
    && decodesTo [0b11010110, 0x34] (.sui 0x34) && decodesTo [0b11011110, 0x34] (.sbi 0x34)
    && decodesTo [0b11100110, 0x34] (.ani 0x34) && decodesTo [0b11101110, 0x34] (.xri 0x34)
    && decodesTo [0b11110110, 0x34] (.ori 0x34) && decodesTo [0b11111110, 0x34] (.cpi 0x34)) = true := by decide

/-- 8 rows of spec/opcode_table.json. -/
theorem test_decode_rst : (
    decodesTo [0b11000111] .rst0 && decodesTo [0b11001111] .rst1 && decodesTo [0b11010111] .rst2
    && decodesTo [0b11011111] .rst3 && decodesTo [0b11100111] .rst4 && decodesTo [0b11101111] .rst5
    && decodesTo [0b11110111] .rst6 && decodesTo [0b11111111] .rst7) = true := by decide

/-- No byte, and a missing operand byte, are refused by name. -/
theorem test_decode_short : decode [] = .noByte ∧ decode [0x3E] = .truncated 0x3E ∧ decode [0xC3, 0x34] = .truncated 0xC3 := by
  decide

/-- R100, length 2: MVI, the immediate arithmetic and logical instructions, OUT, IN. -/
theorem test_length_two : ([0x06, 0x0E, 0x16, 0x1E, 0x26, 0x2E, 0x36, 0x3E, 0xC6, 0xCE, 0xD6, 0xDE, 0xE6, 0xEE, 0xF6, 0xFE,
    0xD3, 0xDB] : List Byte).all (fun op => opcodeLength op == some 2) = true := by decide

/-- R100, length 3: LXI, SHLD, LHLD, STA, LDA, Jcc, JMP, Ccc, CALL. -/
theorem test_length_three : ([0x01, 0x11, 0x21, 0x31, 0x22, 0x2A, 0x32, 0x3A, 0xC2, 0xCA, 0xD2, 0xDA, 0xE2, 0xEA, 0xF2, 0xFA,
    0xC3, 0xC4, 0xCC, 0xD4, 0xDC, 0xE4, 0xEC, 0xF4, 0xFC, 0xCD] : List Byte).all (fun op => opcodeLength op == some 3) = true := by
  decide

/-- R100: the thirteen faulting bytes have no length. -/
theorem test_length_none : ([0x08, 0x10, 0x18, 0x20, 0x28, 0x30, 0x38, 0xCB, 0xD9, 0xDD, 0xED, 0xFD, 0x27] : List Byte).all
    (fun op => opcodeLength op == none) = true := by decide

/-- R100, length 1: every other byte (here the block 40H to BFH, and one byte of each other shape). -/
theorem test_length_one : (List.range 128).all (fun n => opcodeLength (BitVec.ofNat 8 (0x40 + n)) == some 1) = true ∧
    ([0x00, 0x02, 0x0A, 0x03, 0x09, 0x0B, 0x04, 0x3D, 0x07, 0x37, 0xC0, 0xC1, 0xC5, 0xC7, 0xC9, 0xE3, 0xE9, 0xEB, 0xF3, 0xF9,
      0xFB] : List Byte).all (fun op => opcodeLength op == some 1) = true := by decide +kernel

/-- The host's word: the opcode byte in bits 7:0, the next bytes above it; what the table gives no bits is zero. -/
theorem test_decode_table_word : decodeTableWord 24 0x1234C2 = some (.jnz 0x1234) ∧ decodeTableWord 8 0xC2 = some (.jnz 0) ∧
    decodeTableWord 8 0x41 = some .movBC ∧ decodeTableWord 8 0x27 = some (.noInstruction 0x27) := by
  decide

/-- The stored word is what the next step runs: MVI A,5 after reset. -/
theorem test_with_fetch_word : step (State.reset.withFetchWord 16 0x053E) =
    .next { State.reset.withFetchWord 16 0x053E with regs := { State.reset.regs with a := 5 }, pc := 2 } := rfl

/-! ### One step: the vectors of 95_test_vectors.md, sections 2.1 to 2.7 -/

/-- A start value or a change of a vector. -/
inductive Patch where
  | reg (r : Reg) (v : Byte)
  | mem (a : Addr) (v : Byte)
  | sp (v : Addr)
  | pc (v : Addr)
  | flags (z s p cy ac : Nat)
  | ie (b : Bool)
  | out (port v : Byte)
  deriving DecidableEq, Repr

/-- The state with one value changed. -/
def Patch.on (s : State) (p : Patch) : State :=
  match p with
  | .reg r v => s.setReg r v
  | .mem a v => s.setByte a v
  | .sp v => { s with sp := v }
  | .pc v => s.setPc v
  | .flags z sg p cy ac => s.setFlags { z := z == 1, s := sg == 1, p := p == 1, cy := cy == 1, ac := ac == 1 }
  | .ie b => { s with ie := b }
  | .out port v => { s with io := .output port v :: s.io }

/-- The created state with bytes at `pc`, PC there, and the start values of a vector. -/
def start (code : List Byte) (pc : Addr) (values : List Patch) : State :=
  values.foldl Patch.on ((placeBytes create pc code).setPc pc)

/-- One step costs `cycles`, leaves PC at `after` and changes exactly the values listed. -/
def steps (code : List Byte) (pc : Addr) (values changes : List Patch) (after : Addr) (cycles : Nat) : Bool :=
  stepReport (start code pc values) == .normal cycles ((changes.foldl Patch.on (start code pc values)).setPc after)

/-- The same for an instruction that halts. -/
def halts (code : List Byte) (pc : Addr) (values changes : List Patch) (after : Addr) (cycles : Nat) : Bool :=
  stepReport (start code pc values) == .halt cycles ((changes.foldl Patch.on (start code pc values)).setPc after)

/-- R150: DT1 to DT3. -/
theorem test_step_r150 : (
    steps [0x41] 0x0000 [.reg .b 0x11, .reg .c 0x22] [.reg .b 0x22] 0x0001 5
    && steps [0x7F] 0x0000 [.reg .a 0x5A] [] 0x0001 5
    && steps [0x6C] 0x0000 [.reg .h 0x12, .reg .l 0x34] [.reg .l 0x12] 0x0001 5) = true := by decide

/-- R151: DT4 to DT5. -/
theorem test_step_r151 : (
    steps [0x56] 0x0000 [.reg .h 0x20, .reg .l 0x10, .mem 0x2010 0xAB] [.reg .d 0xAB] 0x0001 7
    && steps [0x66] 0x0000 [.reg .h 0x20, .reg .l 0x10, .mem 0x2010 0x30] [.reg .h 0x30] 0x0001 7) = true := by decide

/-- R152: DT6 to DT8. -/
theorem test_step_r152 : (
    steps [0x73] 0x0000 [.reg .e 0x77, .reg .h 0x20, .reg .l 0x10] [.mem 0x2010 0x77] 0x0001 7
    && steps [0x74] 0x0000 [.reg .h 0x20, .reg .l 0x10] [.mem 0x2010 0x20] 0x0001 7
    && steps [0x77] 0x0100 [.reg .a 0x00, .reg .h 0x01, .reg .l 0x00] [.mem 0x0100 0x00] 0x0101 7) = true := by decide

/-- R153: DT9 to DT10. -/
theorem test_step_r153 : (
    steps [0x0E, 0xFF] 0x0000 [.reg .c 0x01] [.reg .c 0xFF] 0x0002 7
    && steps [0x3E, 0x42] 0xFFFF [.mem 0x0000 0x42] [.reg .a 0x42] 0x0001 7) = true := by decide

/-- R154: DT11. -/
theorem test_step_r154 : (
    steps [0x36, 0x99] 0x0000 [.reg .h 0x30, .reg .l 0x00] [.mem 0x3000 0x99] 0x0002 10) = true := by decide

/-- R155: DT12 to DT16. -/
theorem test_step_r155 : (
    steps [0x01, 0x34, 0x12] 0x0000 [] [.reg .b 0x12, .reg .c 0x34] 0x0003 10
    && steps [0x11, 0xCD, 0xAB] 0x0000 [] [.reg .d 0xAB, .reg .e 0xCD] 0x0003 10
    && steps [0x21, 0x00, 0x20] 0x0000 [] [.reg .h 0x20] 0x0003 10
    && steps [0x31, 0x00, 0x24] 0x0000 [] [.sp 0x2400] 0x0003 10
    && steps [0x21, 0x11, 0x22] 0xFFFE [.mem 0xFFFF 0x11, .mem 0x0000 0x22] [.reg .h 0x22, .reg .l 0x11] 0x0001 10) = true :=
  by decide

/-- R156: DT17. -/
theorem test_step_r156 : (
    steps [0x3A, 0x00, 0x30] 0x0000 [.mem 0x3000 0x5C] [.reg .a 0x5C] 0x0003 13) = true := by decide

/-- R157: DT18 to DT19. -/
theorem test_step_r157 : (
    steps [0x32, 0x00, 0x30] 0x0000 [.reg .a 0xE7] [.mem 0x3000 0xE7] 0x0003 13
    && steps [0x32, 0x01, 0x00] 0x0000 [.reg .a 0xEE] [.mem 0x0001 0xEE] 0x0003 13) = true := by decide

/-- R158: DT20 to DT21. -/
theorem test_step_r158 : (
    steps [0x2A, 0x00, 0x20] 0x0000 [.mem 0x2000 0x34, .mem 0x2001 0x12] [.reg .h 0x12, .reg .l 0x34] 0x0003 16
    && steps [0x2A, 0xFF, 0xFF] 0x0100 [.mem 0xFFFF 0xAA, .mem 0x0000 0xBB] [.reg .h 0xBB, .reg .l 0xAA] 0x0103 16) = true :=
  by decide

/-- R159: DT22 to DT23. -/
theorem test_step_r159 : (
    steps [0x22, 0x00, 0x20] 0x0000 [.reg .h 0xBE, .reg .l 0xEF] [.mem 0x2000 0xEF, .mem 0x2001 0xBE] 0x0003 16
    && steps [0x22, 0xFF, 0xFF] 0x0100 [.reg .h 0xBE, .reg .l 0xEF] [.mem 0x0000 0xBE, .mem 0xFFFF 0xEF] 0x0103 16) = true :=
  by decide

/-- R160: DT24 to DT25. -/
theorem test_step_r160 : (
    steps [0x0A] 0x0000 [.reg .b 0x20, .reg .c 0x05, .mem 0x2005 0x9A] [.reg .a 0x9A] 0x0001 7
    && steps [0x1A] 0x0000 [.reg .d 0x20, .reg .e 0x06, .mem 0x2006 0x9B] [.reg .a 0x9B] 0x0001 7) = true := by decide

/-- R161: DT26 to DT27. -/
theorem test_step_r161 : (
    steps [0x02] 0x0000 [.reg .a 0x3C, .reg .b 0x20, .reg .c 0x05] [.mem 0x2005 0x3C] 0x0001 7
    && steps [0x12] 0x0000 [.reg .a 0x3D, .reg .d 0x20, .reg .e 0x06] [.mem 0x2006 0x3D] 0x0001 7) = true := by decide

/-- R162: DT28. -/
theorem test_step_r162 : (
    steps [0xEB] 0x0000 [.reg .d 0xAB, .reg .e 0xCD, .reg .h 0x12, .reg .l 0x34]
      [.reg .d 0x12, .reg .e 0x34, .reg .h 0xAB, .reg .l 0xCD] 0x0001 4) = true := by decide

/-- R163: DT29. -/
theorem test_step_r163 : (
    steps [0xF9] 0x0000 [.reg .h 0x50, .reg .l 0x6C, .sp 0x1111] [.sp 0x506C] 0x0001 5) = true := by decide

/-- R171: AR1 to AR5. -/
theorem test_step_r171 : (
    steps [0x80] 0x0000 [.reg .a 0x00, .reg .b 0x00, .flags 0 1 0 1 1] [.flags 1 0 1 0 0] 0x0001 4
    && steps [0x80] 0x0000 [.reg .a 0xFF, .reg .b 0x01] [.reg .a 0x00, .flags 1 0 1 1 1] 0x0001 4
    && steps [0x87] 0x0000 [.reg .a 0x80] [.reg .a 0x00, .flags 1 0 1 1 0] 0x0001 4
    && steps [0x87] 0x0000 [.reg .a 0x08] [.reg .a 0x10, .flags 0 0 0 0 1] 0x0001 4
    && steps [0x81] 0x0000 [.reg .a 0x7F, .reg .c 0x01] [.reg .a 0x80, .flags 0 1 0 0 1] 0x0001 4) = true := by decide

/-- R172: AR6. -/
theorem test_step_r172 : (
    steps [0x86] 0x0100 [.reg .a 0xF0, .reg .h 0x20, .reg .l 0x00, .mem 0x2000 0x20]
      [.reg .a 0x10, .flags 0 0 0 1 0] 0x0101 7) = true := by decide

/-- R173: AR7. -/
theorem test_step_r173 : (
    steps [0xC6, 0xFF] 0x0000 [.reg .a 0x01] [.reg .a 0x00, .flags 1 0 1 1 1] 0x0002 7) = true := by decide

/-- R174: AR8 to AR9. -/
theorem test_step_r174 : (
    steps [0x88] 0x0000 [.reg .a 0x0F, .reg .b 0x00, .flags 0 0 0 1 0] [.reg .a 0x10, .flags 0 0 0 0 1] 0x0001 4
    && steps [0x8F] 0x0000 [.reg .a 0x80, .flags 0 0 0 1 0] [.reg .a 0x01] 0x0001 4) = true := by decide

/-- R175: AR10. -/
theorem test_step_r175 : (
    steps [0x8E] 0x0100 [.reg .a 0xFF, .reg .h 0x20, .reg .l 0x00, .mem 0x2000 0xFF, .flags 0 0 0 1 0]
      [.flags 0 1 1 1 1] 0x0101 7) = true := by decide

/-- R176: AR11. -/
theorem test_step_r176 : (
    steps [0xCE, 0x00] 0x0000 [.reg .a 0xFF, .flags 0 0 0 1 0] [.reg .a 0x00, .flags 1 0 1 1 1] 0x0002 7) = true :=
  by decide

/-- R177: AR12 to AR14. -/
theorem test_step_r177 : (
    steps [0x90] 0x0000 [.reg .a 0x00, .reg .b 0x01] [.reg .a 0xFF, .flags 0 1 1 1 1] 0x0001 4
    && steps [0x97] 0x0000 [.reg .a 0xC5, .flags 0 0 0 1 0] [.reg .a 0x00, .flags 1 0 1 0 0] 0x0001 4
    && steps [0x92] 0x0000 [.reg .a 0x50, .reg .d 0x20] [.reg .a 0x30, .flags 0 0 1 0 0] 0x0001 4) = true := by decide

/-- R178: AR15. -/
theorem test_step_r178 : (
    steps [0x96] 0x0100 [.reg .a 0x10, .reg .h 0x20, .reg .l 0x00, .mem 0x2000 0x01]
      [.reg .a 0x0F, .flags 0 0 1 0 1] 0x0101 7) = true := by decide

/-- R179: AR16. -/
theorem test_step_r179 : (
    steps [0xD6, 0x80] 0x0000 [.reg .a 0x7F] [.reg .a 0xFF, .flags 0 1 1 1 0] 0x0002 7) = true := by decide

/-- R180: AR17 to AR18. -/
theorem test_step_r180 : (
    steps [0x99] 0x0000 [.reg .a 0x00, .reg .c 0x00, .flags 0 0 0 1 0] [.reg .a 0xFF, .flags 0 1 1 1 1] 0x0001 4
    && steps [0x9F] 0x0000 [.reg .a 0x12, .flags 0 0 0 1 0] [.reg .a 0xFF, .flags 0 1 1 1 1] 0x0001 4) = true :=
  by decide

/-- R181: AR19. -/
theorem test_step_r181 : (
    steps [0x9E] 0x0100 [.reg .a 0x00, .reg .h 0x20, .reg .l 0x00, .mem 0x2000 0x00, .flags 0 0 0 0 0]
      [.flags 1 0 1 0 0] 0x0101 7) = true := by decide

/-- R182: AR20. -/
theorem test_step_r182 : (
    steps [0xDE, 0xFF] 0x0000 [.reg .a 0x00, .flags 0 0 0 1 0] [.flags 1 0 1 1 1] 0x0002 7) = true := by decide

/-- R183: AR21 to AR23. -/
theorem test_step_r183 : (
    steps [0x04] 0x0000 [.reg .b 0xFF] [.reg .b 0x00, .flags 1 0 1 0 1] 0x0001 5
    && steps [0x3C] 0x0000 [.reg .a 0x7F, .flags 0 0 0 1 0] [.reg .a 0x80, .flags 0 1 0 1 1] 0x0001 5
    && steps [0x2C] 0x0000 [.reg .l 0x0F] [.reg .l 0x10, .flags 0 0 0 0 1] 0x0001 5) = true := by decide

/-- R184: AR24. -/
theorem test_step_r184 : (
    steps [0x34] 0x0100 [.reg .h 0x20, .reg .l 0x00, .mem 0x2000 0xFF] [.mem 0x2000 0x00, .flags 1 0 1 0 1] 0x0101 10) = true :=
  by decide

/-- R185: AR25 to AR27. -/
theorem test_step_r185 : (
    steps [0x05] 0x0000 [.reg .b 0x00] [.reg .b 0xFF, .flags 0 1 1 0 1] 0x0001 5
    && steps [0x3D] 0x0000 [.reg .a 0x01, .flags 0 0 0 1 0] [.reg .a 0x00, .flags 1 0 1 1 0] 0x0001 5
    && steps [0x15] 0x0000 [.reg .d 0x80] [.reg .d 0x7F, .flags 0 0 0 0 1] 0x0001 5) = true := by decide

/-- R186: AR28. -/
theorem test_step_r186 : (
    steps [0x35] 0x0100 [.reg .h 0x20, .reg .l 0x00, .mem 0x2000 0x10] [.mem 0x2000 0x0F, .flags 0 0 1 0 1] 0x0101 10) = true :=
  by decide

/-- R187: AR29 to AR31. -/
theorem test_step_r187 : (
    steps [0x03] 0x0000 [.reg .b 0xFF, .reg .c 0xFF] [.reg .b 0x00, .reg .c 0x00] 0x0001 5
    && steps [0x23] 0x0000 [.reg .h 0x20, .reg .l 0xFF] [.reg .h 0x21, .reg .l 0x00] 0x0001 5
    && steps [0x33] 0x0000 [.sp 0xFFFF] [.sp 0x0000] 0x0001 5) = true := by decide

/-- R188: AR32 to AR34. -/
theorem test_step_r188 : (
    steps [0x2B] 0x0000 [.reg .h 0x00, .reg .l 0x00] [.reg .h 0xFF, .reg .l 0xFF] 0x0001 5
    && steps [0x1B] 0x0000 [.reg .d 0x01, .reg .e 0x00] [.reg .d 0x00, .reg .e 0xFF] 0x0001 5
    && steps [0x3B] 0x0000 [.sp 0x0000] [.sp 0xFFFF] 0x0001 5) = true := by decide

/-- R189: AR35 to AR39. -/
theorem test_step_r189 : (
    steps [0x09] 0x0000 [.reg .b 0x00, .reg .c 0x01, .reg .h 0xFF, .reg .l 0xFF, .flags 0 1 0 0 1]
      [.reg .h 0x00, .reg .l 0x00, .flags 0 1 0 1 1] 0x0001 10
    && steps [0x09] 0x0000 [.reg .b 0x02, .reg .c 0x34, .reg .h 0x10, .reg .l 0x00, .flags 0 0 0 1 0]
      [.reg .h 0x12, .reg .l 0x34, .flags 0 0 0 0 0] 0x0001 10
    && steps [0x29] 0x0000 [.reg .h 0x80, .reg .l 0x01] [.reg .h 0x00, .reg .l 0x02, .flags 0 0 0 1 0] 0x0001 10
    && steps [0x39] 0x0000 [.reg .h 0x00, .reg .l 0x10, .sp 0x2400] [.reg .h 0x24] 0x0001 10
    && steps [0x19] 0x0000 [.reg .d 0x33, .reg .e 0x9F, .reg .h 0xA1, .reg .l 0x7B]
      [.reg .h 0xD5, .reg .l 0x1A] 0x0001 10) = true := by decide

/-- R200: LG1 to LG2. -/
theorem test_step_r200 : (
    steps [0xA7] 0x0000 [.reg .a 0x80, .flags 0 0 0 1 1] [.flags 0 1 0 0 0] 0x0001 4
    && steps [0xA0] 0x0000 [.reg .a 0xF0, .reg .b 0x0F, .flags 0 0 0 1 0] [.reg .a 0x00, .flags 1 0 1 0 0] 0x0001 4) = true :=
  by decide

/-- R201: LG3. -/
theorem test_step_r201 : (
    steps [0xA6] 0x0100 [.reg .a 0xFF, .reg .h 0x20, .reg .l 0x00, .mem 0x2000 0x81]
      [.reg .a 0x81, .flags 0 1 1 0 0] 0x0101 7) = true := by decide

/-- R202: LG4. -/
theorem test_step_r202 : (
    steps [0xE6, 0x00] 0x0000 [.reg .a 0xFF, .flags 0 0 0 1 1] [.reg .a 0x00, .flags 1 0 1 0 0] 0x0002 7) = true :=
  by decide

/-- R203: LG5 to LG6. -/
theorem test_step_r203 : (
    steps [0xAF] 0x0000 [.reg .a 0x5A, .flags 0 1 0 1 0] [.reg .a 0x00, .flags 1 0 1 0 0] 0x0001 4
    && steps [0xA9] 0x0000 [.reg .a 0x0F, .reg .c 0xFF] [.reg .a 0xF0, .flags 0 1 1 0 0] 0x0001 4) = true := by decide

/-- R204: LG7. -/
theorem test_step_r204 : (
    steps [0xAE] 0x0100 [.reg .a 0xAA, .reg .h 0x20, .reg .l 0x00, .mem 0x2000 0x55]
      [.reg .a 0xFF, .flags 0 1 1 0 0] 0x0101 7) = true := by decide

/-- R205: LG8. -/
theorem test_step_r205 : (
    steps [0xEE, 0xFF] 0x0000 [.reg .a 0x00] [.reg .a 0xFF, .flags 0 1 1 0 0] 0x0002 7) = true := by decide

/-- R206: LG9 to LG10. -/
theorem test_step_r206 : (
    steps [0xB7] 0x0000 [.reg .a 0x00, .flags 0 0 0 1 0] [.flags 1 0 1 0 0] 0x0001 4
    && steps [0xB0] 0x0000 [.reg .a 0x80, .reg .b 0x01] [.reg .a 0x81, .flags 0 1 1 0 0] 0x0001 4) = true := by decide

/-- R207: LG11. -/
theorem test_step_r207 : (
    steps [0xB6] 0x0100 [.reg .a 0x00, .reg .h 0x20, .reg .l 0x00, .mem 0x2000 0x00] [.flags 1 0 1 0 0] 0x0101 7) = true :=
  by decide

/-- R208: LG12. -/
theorem test_step_r208 : (
    steps [0xF6, 0x80] 0x0000 [.reg .a 0x01] [.reg .a 0x81, .flags 0 1 1 0 0] 0x0002 7) = true := by decide

/-- R209: LG13 to LG17. -/
theorem test_step_r209 : (
    steps [0xB8] 0x0000 [.reg .a 0x42, .reg .b 0x42] [.flags 1 0 1 0 0] 0x0001 4
    && steps [0xB8] 0x0000 [.reg .a 0x10, .reg .b 0x20] [.flags 0 1 1 1 0] 0x0001 4
    && steps [0xB8] 0x0000 [.reg .a 0x20, .reg .b 0x10] [] 0x0001 4
    && steps [0xBF] 0x0000 [.reg .a 0x99, .flags 0 0 0 1 0] [.flags 1 0 1 0 0] 0x0001 4
    && steps [0xB9] 0x0000 [.reg .a 0x80, .reg .c 0x7F] [.flags 0 0 0 0 1] 0x0001 4) = true := by decide

/-- R210: LG18. -/
theorem test_step_r210 : (
    steps [0xBE] 0x0100 [.reg .a 0x00, .reg .h 0x20, .reg .l 0x00, .mem 0x2000 0x01] [.flags 0 1 1 1 1] 0x0101 7) = true :=
  by decide

/-- R211: LG19 to LG20. -/
theorem test_step_r211 : (
    steps [0xFE, 0x00] 0x0000 [.reg .a 0x00, .flags 0 0 0 1 0] [.flags 1 0 1 0 0] 0x0002 7
    && steps [0xFE, 0xFF] 0x0000 [.reg .a 0x00] [.flags 0 0 0 1 1] 0x0002 7) = true := by decide

/-- R212: LG21 to LG22. -/
theorem test_step_r212 : (
    steps [0x07] 0x0000 [.reg .a 0x80] [.reg .a 0x01, .flags 0 0 0 1 0] 0x0001 4
    && steps [0x07] 0x0000 [.reg .a 0x01, .flags 1 1 1 1 1] [.reg .a 0x02, .flags 1 1 1 0 1] 0x0001 4) = true :=
  by decide

/-- R213: LG23 to LG24. -/
theorem test_step_r213 : (
    steps [0x0F] 0x0000 [.reg .a 0x01] [.reg .a 0x80, .flags 0 0 0 1 0] 0x0001 4
    && steps [0x0F] 0x0000 [.reg .a 0xFE, .flags 0 0 0 1 0] [.reg .a 0x7F, .flags 0 0 0 0 0] 0x0001 4) = true :=
  by decide

/-- R214: LG25 to LG26. -/
theorem test_step_r214 : (
    steps [0x17] 0x0000 [.reg .a 0x80, .flags 0 0 0 0 0] [.reg .a 0x00, .flags 0 0 0 1 0] 0x0001 4
    && steps [0x17] 0x0000 [.reg .a 0x00, .flags 0 0 0 1 0] [.reg .a 0x01, .flags 0 0 0 0 0] 0x0001 4) = true :=
  by decide

/-- R215: LG27 to LG28. -/
theorem test_step_r215 : (
    steps [0x1F] 0x0000 [.reg .a 0x01, .flags 0 0 0 0 0] [.reg .a 0x00, .flags 0 0 0 1 0] 0x0001 4
    && steps [0x1F] 0x0000 [.reg .a 0x00, .flags 0 0 0 1 0] [.reg .a 0x80, .flags 0 0 0 0 0] 0x0001 4) = true :=
  by decide

/-- R216: LG29 to LG30. -/
theorem test_step_r216 : (
    steps [0x2F] 0x0000 [.reg .a 0x51, .flags 1 0 0 1 0] [.reg .a 0xAE] 0x0001 4
    && steps [0x2F] 0x0000 [.reg .a 0xFF] [.reg .a 0x00] 0x0001 4) = true := by decide

/-- R217: LG31 to LG32. -/
theorem test_step_r217 : (
    steps [0x37] 0x0000 [.flags 1 0 0 0 0] [.flags 1 0 0 1 0] 0x0001 4
    && steps [0x37] 0x0000 [.flags 0 0 0 1 0] [] 0x0001 4) = true := by decide

/-- R218: LG33 to LG34. -/
theorem test_step_r218 : (
    steps [0x3F] 0x0000 [.flags 0 0 0 0 0] [.flags 0 0 0 1 0] 0x0001 4
    && steps [0x3F] 0x0000 [.flags 0 0 0 1 1] [.flags 0 0 0 0 1] 0x0001 4) = true := by decide

/-- R230: BR1 to BR2. -/
theorem test_step_r230 : (
    steps [0xC3, 0x34, 0x12] 0x0000 [] [] 0x1234 10
    && steps [0xC3, 0x00, 0x01] 0x0100 [] [] 0x0100 10) = true := by decide

/-- R231: BR3 to BR12. -/
theorem test_step_r231_1 : (
    steps [0xC2, 0x34, 0x12] 0x0000 [.flags 0 0 0 0 0] [] 0x1234 10
    && steps [0xC2, 0x34, 0x12] 0x0000 [.flags 1 0 0 0 0] [] 0x0003 10
    && steps [0xCA, 0x00, 0x20] 0x0100 [.flags 1 0 0 0 0] [] 0x2000 10
    && steps [0xCA, 0x00, 0x20] 0x0100 [.flags 0 0 0 0 0] [] 0x0103 10
    && steps [0xD2, 0x00, 0x20] 0x0100 [.flags 0 0 0 0 0] [] 0x2000 10
    && steps [0xD2, 0x00, 0x20] 0x0100 [.flags 0 0 0 1 0] [] 0x0103 10
    && steps [0xDA, 0x00, 0x20] 0x0100 [.flags 0 0 0 1 0] [] 0x2000 10
    && steps [0xDA, 0x00, 0x20] 0x0100 [.flags 0 0 0 0 0] [] 0x0103 10
    && steps [0xE2, 0x00, 0x20] 0x0100 [.flags 0 0 0 0 0] [] 0x2000 10
    && steps [0xE2, 0x00, 0x20] 0x0100 [.flags 0 0 1 0 0] [] 0x0103 10) = true := by decide

/-- R231: BR13 to BR19. -/
theorem test_step_r231_2 : (
    steps [0xEA, 0x00, 0x20] 0x0100 [.flags 0 0 1 0 0] [] 0x2000 10
    && steps [0xEA, 0x00, 0x20] 0x0100 [.flags 0 0 0 0 0] [] 0x0103 10
    && steps [0xF2, 0x00, 0x20] 0x0100 [.flags 0 0 0 0 0] [] 0x2000 10
    && steps [0xF2, 0x00, 0x20] 0x0100 [.flags 0 1 0 0 0] [] 0x0103 10
    && steps [0xFA, 0x00, 0x20] 0x0100 [.flags 0 1 0 0 0] [] 0x2000 10
    && steps [0xFA, 0x00, 0x20] 0x0100 [.flags 0 0 0 0 0] [] 0x0103 10
    && steps [0xC2, 0x34, 0x12] 0xFFFD [.flags 1 0 0 0 0] [] 0x0000 10) = true := by decide

/-- R232: BR20 to BR22. -/
theorem test_step_r232 : (
    steps [0xCD, 0x00, 0x02] 0x0100 [.sp 0x2400] [.sp 0x23FE, .mem 0x23FE 0x03, .mem 0x23FF 0x01] 0x0200 17
    && steps [0xCD, 0x00, 0x02] 0x0100 [.sp 0x0001] [.sp 0xFFFF, .mem 0x0000 0x01, .mem 0xFFFF 0x03] 0x0200 17
    && steps [0xCD, 0x00, 0x02] 0x0100 [.sp 0x0103] [.sp 0x0101, .mem 0x0101 0x03, .mem 0x0102 0x01] 0x0200 17) = true :=
  by decide

/-- R233: BR23 to BR27. -/
theorem test_step_r233 : (
    steps [0xC4, 0x00, 0x02] 0x0100 [.sp 0x2400, .flags 0 0 0 0 0]
      [.sp 0x23FE, .mem 0x23FE 0x03, .mem 0x23FF 0x01] 0x0200 17
    && steps [0xC4, 0x00, 0x02] 0x0100 [.sp 0x2400, .flags 1 0 0 0 0] [] 0x0103 11
    && steps [0xDC, 0x00, 0x02] 0x0100 [.sp 0x2400, .flags 0 0 0 1 0]
      [.sp 0x23FE, .mem 0x23FE 0x03, .mem 0x23FF 0x01] 0x0200 17
    && steps [0xFC, 0x00, 0x02] 0x0100 [.sp 0x2400, .flags 0 0 0 0 0] [] 0x0103 11
    && steps [0xEC, 0x00, 0x02] 0x0100 [.sp 0x2400, .flags 0 0 1 0 0]
      [.sp 0x23FE, .mem 0x23FE 0x03, .mem 0x23FF 0x01] 0x0200 17) = true := by decide

/-- R234: BR28 to BR29. -/
theorem test_step_r234 : (
    steps [0xC9] 0x0200 [.sp 0x23FE, .mem 0x23FE 0x03, .mem 0x23FF 0x01] [.sp 0x2400] 0x0103 10
    && steps [0xC9] 0x0200 [.sp 0xFFFF, .mem 0xFFFF 0x34, .mem 0x0000 0x12] [.sp 0x0001] 0x1234 10) = true := by decide

/-- R235: BR30 to BR33. -/
theorem test_step_r235 : (
    steps [0xC8] 0x0200 [.sp 0x23FE, .mem 0x23FE 0x03, .mem 0x23FF 0x01, .flags 1 0 0 0 0] [.sp 0x2400] 0x0103 11
    && steps [0xC8] 0x0200 [.sp 0x23FE, .mem 0x23FE 0x03, .mem 0x23FF 0x01, .flags 0 0 0 0 0] [] 0x0201 5
    && steps [0xF0] 0x0200 [.sp 0x23FE, .mem 0x23FE 0x03, .mem 0x23FF 0x01, .flags 0 0 0 0 0] [.sp 0x2400] 0x0103 11
    && steps [0xE0] 0x0200 [.sp 0x23FE, .mem 0x23FE 0x03, .mem 0x23FF 0x01, .flags 0 0 1 0 0] [] 0x0201 5) = true :=
  by decide

/-- R236: BR34 to BR42. -/
theorem test_step_r236 : (
    steps [0xC7] 0x0150 [.sp 0x2400] [.sp 0x23FE, .mem 0x23FE 0x51, .mem 0x23FF 0x01] 0x0000 11
    && steps [0xCF] 0x0150 [.sp 0x2400] [.sp 0x23FE, .mem 0x23FE 0x51, .mem 0x23FF 0x01] 0x0008 11
    && steps [0xD7] 0x0150 [.sp 0x2400] [.sp 0x23FE, .mem 0x23FE 0x51, .mem 0x23FF 0x01] 0x0010 11
    && steps [0xDF] 0x0150 [.sp 0x2400] [.sp 0x23FE, .mem 0x23FE 0x51, .mem 0x23FF 0x01] 0x0018 11
    && steps [0xE7] 0x0150 [.sp 0x2400] [.sp 0x23FE, .mem 0x23FE 0x51, .mem 0x23FF 0x01] 0x0020 11
    && steps [0xEF] 0x0150 [.sp 0x2400] [.sp 0x23FE, .mem 0x23FE 0x51, .mem 0x23FF 0x01] 0x0028 11
    && steps [0xF7] 0x0150 [.sp 0x2400] [.sp 0x23FE, .mem 0x23FE 0x51, .mem 0x23FF 0x01] 0x0030 11
    && steps [0xFF] 0x0150 [.sp 0x2400] [.sp 0x23FE, .mem 0x23FE 0x51, .mem 0x23FF 0x01] 0x0038 11
    && steps [0xFF] 0xFFFF [.sp 0x2400, .mem 0x23FE 0xEE, .mem 0x23FF 0xEE]
      [.sp 0x23FE, .mem 0x23FE 0x00, .mem 0x23FF 0x00] 0x0038 11) = true := by decide

/-- R237: BR43. -/
theorem test_step_r237 : (
    steps [0xE9] 0x0100 [.reg .h 0x41, .reg .l 0x3E] [] 0x413E 5) = true := by decide

/-- R250: ST1 to ST4. -/
theorem test_step_r250 : (
    steps [0xC5] 0x0000 [.reg .b 0x12, .reg .c 0x34, .sp 0x2400]
      [.sp 0x23FE, .mem 0x23FE 0x34, .mem 0x23FF 0x12] 0x0001 11
    && steps [0xD5] 0x0000 [.reg .d 0x8F, .reg .e 0x9D, .sp 0x3A2C]
      [.sp 0x3A2A, .mem 0x3A2A 0x9D, .mem 0x3A2B 0x8F] 0x0001 11
    && steps [0xE5] 0x0000 [.reg .h 0xA0, .reg .l 0xB1, .sp 0x2400]
      [.sp 0x23FE, .mem 0x23FE 0xB1, .mem 0x23FF 0xA0] 0x0001 11
    && steps [0xC5] 0x0100 [.reg .b 0x12, .reg .c 0x34, .sp 0x0000]
      [.sp 0xFFFE, .mem 0xFFFE 0x34, .mem 0xFFFF 0x12] 0x0101 11) = true := by decide

/-- R251: ST5 to ST7. -/
theorem test_step_r251 : (
    steps [0xF5] 0x0000 [.reg .a 0x55, .sp 0x2400] [.sp 0x23FE, .mem 0x23FE 0x02, .mem 0x23FF 0x55] 0x0001 11
    && steps [0xF5] 0x0000 [.reg .a 0xAA, .sp 0x2400, .flags 1 1 1 1 1]
      [.sp 0x23FE, .mem 0x23FE 0xD7, .mem 0x23FF 0xAA] 0x0001 11
    && steps [0xF5] 0x0000 [.reg .a 0x00, .sp 0x2400, .flags 1 0 1 0 0] [.sp 0x23FE, .mem 0x23FE 0x46] 0x0001 11) = true :=
  by decide

/-- R252: ST8 to ST10. -/
theorem test_step_r252 : (
    steps [0xC1] 0x0100 [.sp 0x23FE, .mem 0x23FE 0x34, .mem 0x23FF 0x12]
      [.reg .b 0x12, .reg .c 0x34, .sp 0x2400] 0x0101 10
    && steps [0xD1] 0x0100 [.sp 0x23FE, .mem 0x23FE 0x9D, .mem 0x23FF 0x8F]
      [.reg .d 0x8F, .reg .e 0x9D, .sp 0x2400] 0x0101 10
    && steps [0xE1] 0x0100 [.sp 0x1239, .mem 0x1239 0x3D, .mem 0x123A 0x93]
      [.reg .h 0x93, .reg .l 0x3D, .sp 0x123B] 0x0101 10) = true := by decide

/-- R253: ST11 to ST13. -/
theorem test_step_r253 : (
    steps [0xF1] 0x0100 [.sp 0x23FE, .mem 0x23FE 0xFF, .mem 0x23FF 0x12]
      [.reg .a 0x12, .sp 0x2400, .flags 1 1 1 1 1] 0x0101 10
    && steps [0xF1] 0x0100 [.sp 0x23FE, .mem 0x23FE 0x00, .mem 0x23FF 0x34, .flags 1 1 1 1 1]
      [.reg .a 0x34, .sp 0x2400, .flags 0 0 0 0 0] 0x0101 10
    && steps [0xF1] 0x0100 [.sp 0x23FE, .mem 0x23FE 0x28, .mem 0x23FF 0x01] [.reg .a 0x01, .sp 0x2400] 0x0101 10) = true :=
  by decide

/-- R254: ST14 to ST15. -/
theorem test_step_r254 : (
    steps [0xE3] 0x0100 [.reg .h 0x0B, .reg .l 0x3C, .sp 0x10AD, .mem 0x10AD 0xF0, .mem 0x10AE 0x0D]
      [.reg .h 0x0D, .reg .l 0xF0, .mem 0x10AD 0x3C, .mem 0x10AE 0x0B] 0x0101 18
    && steps [0xE3] 0x0100 [.reg .h 0x12, .reg .l 0x34, .sp 0xFFFF, .mem 0xFFFF 0x78, .mem 0x0000 0x56]
      [.reg .h 0x56, .reg .l 0x78, .mem 0x0000 0x12, .mem 0xFFFF 0x34] 0x0101 18) = true := by decide

/-- R268: IO3 to IO4. -/
theorem test_step_r268 : (
    steps [0xD3, 0x02] 0x0000 [.reg .a 0x41] [.out 0x02 0x41] 0x0002 10
    && steps [0xD3, 0x00] 0x0000 [.reg .a 0x00] [.out 0x00 0x00] 0x0002 10) = true := by decide

/-- R269: IO5 to IO6. -/
theorem test_step_r269 : (
    steps [0xFB] 0x0000 [.ie false] [.ie true] 0x0001 4
    && steps [0xFB] 0x0000 [.ie true] [] 0x0001 4) = true := by decide

/-- R270: IO7 to IO8. -/
theorem test_step_r270 : (
    steps [0xF3] 0x0000 [.ie true] [.ie false] 0x0001 4
    && steps [0xF3] 0x0000 [.ie false] [] 0x0001 4) = true := by decide

/-- R271: IO9 to IO10. -/
theorem test_step_r271 : (
    halts [0x76] 0x0005 [.reg .a 0x07] [] 0x0006 7
    && halts [0x76] 0xFFFF [] [] 0x0000 7) = true := by decide

/-- R272: IO11 to IO12. -/
theorem test_step_r272 : (
    steps [0x00] 0x0010 [] [] 0x0011 4
    && steps [0x00] 0xFFFF [] [] 0x0000 4) = true := by decide

/-- R267: IO1 and IO2; A gets the byte the environment answers, whatever it is, and the read is recorded. -/
theorem test_step_r267 : step (start [0xDB, 0x01] 0x0000 [.reg .a 0x11]) =
    .next { start [0xDB, 0x01] 0x0000 [.reg .a (Config.portAnswer [] 0x01), .pc 0x0002] with
      io := [.input 0x01 (Config.portAnswer [] 0x01)] } := rfl

/-- R280, R190: FL1 to FL13 and AR40; a faulting byte reports itself and PC. -/
theorem test_step_r280 : illegalBytes.all (fun op =>
    stepReport (start [op] 0x0123 [.reg .a 0x11, .reg .h 0x22, .reg .l 0x33, .sp 0x2400, .flags 1 0 0 1 0, .ie true])
      == .fault op 0x0123) = true := by decide

/-! ### Interrupts: section 2.8 -/

/-- `raise(n)` changes exactly the values listed. -/
def raises (n : RstVector) (values changes : List Patch) : Bool :=
  raise n (start [] 0 values) == changes.foldl Patch.on (start [] 0 values)

/-- R285: IN1 to IN7. -/
theorem test_raise : (
    raises 5 [.pc 0x1234, .sp 0x2400, .ie false] []
    && raises 5 [.pc 0x1234, .sp 0x2400, .ie true]
      [.pc 0x0028, .sp 0x23FE, .ie false, .mem 0x23FE 0x34, .mem 0x23FF 0x12]
    && raises 0 [.pc 0x1234, .sp 0x2400, .ie true]
      [.pc 0x0000, .sp 0x23FE, .ie false, .mem 0x23FE 0x34, .mem 0x23FF 0x12]
    && raises 7 [.pc 0x1234, .sp 0x2400, .ie true]
      [.pc 0x0038, .sp 0x23FE, .ie false, .mem 0x23FE 0x34, .mem 0x23FF 0x12]
    && raises 1 [.pc 0x1234, .sp 0x0000, .ie true]
      [.pc 0x0008, .sp 0xFFFE, .ie false, .mem 0xFFFE 0x34, .mem 0xFFFF 0x12]
    && raises 2 [.pc 0x0005, .sp 0x2400, .ie true] [.pc 0x0010, .sp 0x23FE, .ie false, .mem 0x23FE 0x05]
    && raises 3 [.pc 0xFFFF, .sp 0x2400, .ie true, .mem 0x23FE 0xEE, .mem 0x23FF 0xEE]
      [.pc 0x0018, .sp 0x23FE, .ie false, .mem 0x23FE 0xFF, .mem 0x23FF 0xFF]) = true := by decide

/-- IN8: a second request while the first is served is lost. -/
theorem test_raise_is_not_queued :
    raise 4 (raise 2 (start [] 0x0100 [.sp 0x2400, .ie true])) = raise 2 (start [] 0x0100 [.sp 0x2400, .ie true]) := by
  decide

/-- IN9: EI acts at once (D16), so a request right after it is accepted. -/
theorem test_raise_after_ei : raise 1 (applyMove .step (start [0xFB, 0x00] 0x0000 [.sp 0x2400])) =
    start [0xFB, 0x00] 0x0000 [.pc 0x0008, .sp 0x23FE, .mem 0x23FE 0x01] := by decide

/-! ### The run loop: section 2.9 -/

/-- The document's program `3E 05 06 02 80 76` at 0 (R106). -/
def document : State := start [0x3E, 0x05, 0x06, 0x02, 0x80, 0x76] 0x0000 []

/-- `3E 01 08 3C 76` at 0. -/
def withFault : State := start [0x3E, 0x01, 0x08, 0x3C, 0x76] 0x0000 []

/-- Reason, total, A, B and PC of a run. -/
def ends (r : Option RunResult) (reason : Termination) (total : Nat) (a b : Byte) (pc : Addr) : Bool :=
  match r with
  | some r => r.reason == reason && r.total == total && r.state.reg .a == a && r.state.reg .b == b && r.state.pc == pc
  | none => false

/-- R130 to R132: RL1 to RL6. -/
theorem test_run_document : (
    ends (run 0 document) .completed 0 0 0 0x0000 && ends (run 6 document) .completed 0 0 0 0x0000
    && ends (run 7 document) .completed 7 5 0 0x0002 && ends (run 24 document) .completed 18 7 2 0x0005
    && ends (run 25 document) .halted 25 7 2 0x0006 && ends (runUnbounded 4 document) .halted 25 7 2 0x0006) = true := by
  decide

/-- R130 to R132: RL7 to RL11. -/
theorem test_run_faults_and_nops : (
    ends (runUnbounded 2 withFault) (.faulted 0x08 0x0002) 7 1 0 0x0002
    && ends (run 0 (start [0x08] 0x0000 [])) (.faulted 0x08 0x0000) 0 0 0 0x0000
    && ends (run 7 withFault) (.faulted 0x08 0x0002) 7 1 0 0x0002
    && ends (run 10 create) .completed 8 0 0 0x0002 && ends (run 3 create) .completed 0 0 0 0x0000) = true := by
  decide

/-- RL12 and RL13: slices, and a run after a Halt. -/
theorem test_run_slices : (
    ends (run 10 (applyMove (.run 10) document)) .completed 7 5 2 0x0004
    && ends (run 10 (applyMove (.run 10) (applyMove (.run 10) document))) .completed 4 7 2 0x0005
    && ends (run 10 (applyMove (.run 10) (applyMove (.run 10) (applyMove (.run 10) document)))) .halted 7 7 2 0x0006
    && ends (run 8 (applyMove (.run 25) document)) .completed 8 7 2 0x0008) = true := by decide

/-- RL14: a fault again until the host patches memory (R283, R292). -/
theorem test_run_after_patch : (
    ends (run 7 (applyMove (.run 7) withFault)) (.faulted 0x08 0x0002) 0 1 0 0x0002
    && ends (runUnbounded 3 (applyMove (.patchMemory 0x0002 0x00) (applyMove (.run 7) withFault)))
      .halted 16 2 0 0x0005) = true := by decide

/-! ### Cycles: every opcode byte against the column `cycles` of spec/opcode_table.json (R125) -/

/-- The cost of an opcode byte with every flag `b`; 0 where there is none. -/
def costWith (b : Bool) (op : Byte) : Nat := (cycles (decodeOp op 0 0) { z := b, s := b, p := b, cy := b, ac := b }).getD 0

/-- The sixteen opcode bytes from `row` on cost what is listed, a conditional instruction when taken. -/
def costRow (row : Nat) (expected : List Nat) : Bool :=
  ((List.range 16).map fun k => max (costWith false (BitVec.ofNat 8 (row + k))) (costWith true (BitVec.ofNat 8 (row + k))))
    == expected

/-- Opcode bytes 0x00 to 0x7F. -/
theorem test_cycles_low : (
    costRow 0x00 [4, 10, 7, 5, 5, 5, 7, 4, 0, 10, 7, 5, 5, 5, 7, 4]
    && costRow 0x10 [0, 10, 7, 5, 5, 5, 7, 4, 0, 10, 7, 5, 5, 5, 7, 4]
    && costRow 0x20 [0, 10, 16, 5, 5, 5, 7, 0, 0, 10, 16, 5, 5, 5, 7, 4]
    && costRow 0x30 [0, 10, 13, 5, 10, 10, 10, 4, 0, 10, 13, 5, 5, 5, 7, 4]
    && costRow 0x40 [5, 5, 5, 5, 5, 5, 7, 5, 5, 5, 5, 5, 5, 5, 7, 5]
    && costRow 0x50 [5, 5, 5, 5, 5, 5, 7, 5, 5, 5, 5, 5, 5, 5, 7, 5]
    && costRow 0x60 [5, 5, 5, 5, 5, 5, 7, 5, 5, 5, 5, 5, 5, 5, 7, 5]
    && costRow 0x70 [7, 7, 7, 7, 7, 7, 7, 7, 5, 5, 5, 5, 5, 5, 7, 5]) = true := by decide

/-- Opcode bytes 0x80 to 0xFF. -/
theorem test_cycles_high : (
    costRow 0x80 [4, 4, 4, 4, 4, 4, 7, 4, 4, 4, 4, 4, 4, 4, 7, 4]
    && costRow 0x90 [4, 4, 4, 4, 4, 4, 7, 4, 4, 4, 4, 4, 4, 4, 7, 4]
    && costRow 0xA0 [4, 4, 4, 4, 4, 4, 7, 4, 4, 4, 4, 4, 4, 4, 7, 4]
    && costRow 0xB0 [4, 4, 4, 4, 4, 4, 7, 4, 4, 4, 4, 4, 4, 4, 7, 4]
    && costRow 0xC0 [11, 10, 10, 10, 17, 11, 7, 11, 11, 10, 10, 0, 17, 17, 7, 11]
    && costRow 0xD0 [11, 10, 10, 10, 17, 11, 7, 11, 11, 0, 10, 10, 17, 0, 7, 11]
    && costRow 0xE0 [11, 10, 10, 18, 17, 11, 7, 11, 11, 5, 10, 4, 17, 0, 7, 11]
    && costRow 0xF0 [11, 10, 10, 4, 17, 11, 7, 11, 11, 5, 10, 4, 17, 0, 7, 11]) = true := by decide

/-- Not taken (column `cycles_not_taken`): Jcc 10, Ccc 11, Rcc 5. -/
theorem test_cycles_not_taken : (
    [0xC0, 0xC8, 0xD0, 0xD8, 0xE0, 0xE8, 0xF0, 0xF8].all (fun op => min (costWith false op) (costWith true op) == 5)
    && [0xC2, 0xCA, 0xD2, 0xDA, 0xE2, 0xEA, 0xF2, 0xFA].all (fun op => min (costWith false op) (costWith true op) == 10)
    && [0xC4, 0xCC, 0xD4, 0xDC, 0xE4, 0xEC, 0xF4, 0xFC].all (fun op => min (costWith false op) (costWith true op) == 11)) = true :=
  by decide

/-! ### Loading and reset: section 2.10 -/

/-- LD1 and LD4: bytes copied, everything else kept; an empty image at the top. -/
theorem test_load : loadImage [0x3E, 0x05, 0x06] 0x0000 (start [] 0x0100 [.ie true]) =
      .ok (start [] 0x0100 [.ie true, .mem 0x0000 0x3E, .mem 0x0001 0x05, .mem 0x0002 0x06]) ∧
    loadImage [] 0xFFFF create = .ok create := by decide

/-- LD2 and LD3 at the edge: the last byte fits, one more is refused, and none wraps (R313). -/
theorem test_load_edge : loadImage [0x11, 0x22] 0xFFFE create = .ok (start [] 0x0000 [.mem 0xFFFE 0x11, .mem 0xFFFF 0x22]) ∧
    loadImage [0x11, 0x22, 0x33] 0xFFFE create = .imageTooLargeForAddressSpace := by decide

/-- LD3 and LD6 with the document's sizes. -/
theorem test_load_refused : loadImage (List.replicate 257 0xAA) 0xFF00 create = .imageTooLargeForAddressSpace ∧
    loadImage (List.replicate 65536 0xAA) 0x0001 create = .imageTooLargeForAddressSpace := by
  constructor
  · exact if_pos (by rw [List.length_replicate]; decide)
  · exact if_pos (by rw [List.length_replicate]; decide)

/-- RS1 (R310). -/
theorem test_reset : create = start [] 0x0000 [.reg .a 0, .sp 0, .flags 0 0 0 0 0, .ie false] ∧ create.byteAt 0xFFFF = 0 := by
  decide

/-! ### The flag byte and parity (R29, R35) -/

/-- The values the document and the vectors give: parity of six bytes, the flag byte of no flag and of all (ST5, ST6). -/
theorem test_parity_and_flag_byte :
    [0x00, 0x01, 0x03, 0x07, 0xFF, 0x80].map parity8 = [true, false, true, false, true, false] ∧
    packFlags { z := false, s := false, p := false, cy := false, ac := false } = 0x02 ∧
    packFlags { z := true, s := true, p := true, cy := true, ac := true } = 0xD7 := by decide

/-! ### Witnesses: states and operands that meet the hypotheses of the statements -/

/-- DecodeOfEncodeIsTheInstruction. -/
theorem witness_wf : (Instr.lxiSP 0xFFFF).wf = true ∧ (Instr.noInstruction 0xFD).wf = true := by decide

/-- EncodeOfDecodeIsTheBytes, LengthIsAFunctionOfTheOpcodeByte: the longest operand, with bytes left; a byte with a handler and
one without. -/
theorem witness_decode : decode [0xC2, 0xFF, 0xFF, 0x01] = .ok (.jnz 0xFFFF) [0x01] ∧ (Instr.jnz 0xFFFF).length = some 3 ∧
    (0xFF : Byte) ∉ illegalBytes ∧ (0xFD : Byte) ∈ illegalBytes := by decide

/-- The longest instruction at the last address: its operand bytes wrap to 0 and 1 (R64). -/
def atTheTop : State := start [0x31, 0x34, 0x12] 0xFFFF []

/-- StepRunsTheDecodedInstruction, with operand bytes past the top. -/
theorem witness_step : decode [atTheTop.byteAt atTheTop.pc, atTheTop.byteAt (atTheTop.pc + 1),
    atTheTop.byteAt (atTheTop.pc + 2)] = .ok (.lxiSP 0x1234) [] := by decide

/-- StoredInstructionIsTheNextFetched. -/
theorem witness_stored : (Instr.lxiSP 0x1234).wf = true ∧ BytesAt atTheTop atTheTop.pc (encode (.lxiSP 0x1234)) :=
  ⟨rfl, by decide, by decide, by decide, trivial⟩

/-- ByteWithNoHandlerFaults, NothingElseFaults, RunAtAFaultOrWithNoBudget: a byte with no handler at PC, and one with. -/
theorem witness_fault : (start [0xCB] 0xFFFF []).byteAt 0xFFFF ∈ illegalBytes ∧ create.byteAt create.pc ∉ illegalBytes ∧
    ∀ op, Instr.hlt ≠ .noInstruction op :=
  ⟨by decide, by decide, fun _ h => nomatch h⟩

/-- RegisterAndPairWrites, MemoryReadAfterWrite, WordsAreLittleEndian, PushStoresHighByteAbove. -/
theorem witness_apart : Reg.c ≠ .b ∧ Pair.hl ≠ .sp ∧ Reg.a ∉ regsOf .hl ∧ (0x0000 : Addr) ≠ 0xFFFF ∧
    (0x0001 : Addr) ≠ 0xFFFF ∧ (0x0001 : Addr) ≠ 0xFFFF + 1 ∧ (0x0001 : Addr) ∉ pushed (start [] 0 [.sp 0x0001]) := by
  decide

/-- A state with memory in use that meets the invariant. -/
theorem witness_inv : atTheTop.Inv ∧ step atTheTop = .next (start [0x31, 0x34, 0x12] 0xFFFF [.sp 0x1234, .pc 0x0002]) :=
  ⟨by unfold State.Inv; decide, by rfl⟩

/-- HostMovesKeepTheInvariant, NineRal and the statements without a hypothesis but the invariant. -/
theorem witness_inv_moves : create.Inv ∧ (start [0x76] 0xFFFF [.ie true]).Inv :=
  ⟨rfl, by unfold State.Inv; decide⟩

/-- The data transfer statements, a shape for each clause. -/
theorem witness_data_transfer : Instr.movHL.form = .movRR .h .l ∧ Instr.movHM.form = .movRM .h ∧
    (Instr.lda 0xFFFF).form = .lda 0xFFFF ∧ Instr.ldaxD.form = .ldax .de ∧ Instr.movMH.form = .movMR .h ∧
    (Instr.mviM 0x00).form = .mviM 0x00 ∧ (Instr.sta 0xFFFF).form = .sta 0xFFFF ∧ Instr.staxB.form = .stax .bc ∧
    (Instr.mviA 0xFF).form = .mviR .a 0xFF ∧ (Instr.lxiSP 0xFFFF).form = .lxi .sp 0xFFFF ∧
    (Instr.lhld 0xFFFF).form = .lhld 0xFFFF ∧ (Instr.shld 0xFFFF).form = .shld 0xFFFF := by decide

/-- ImmediateLoadsWriteTheOperand, PairIncrementAndDecrement: a pair that is not SP. -/
theorem witness_pair_is_not_sp : (Instr.lxiB 0).form = .lxi .bc 0 ∧ Instr.inxD.form = .inx .de ∧ Pair.bc ≠ .sp ∧
    Pair.de ≠ .sp := by decide

/-- AdditionRule, SubtractionRule, LogicalRule, CompareRule: each operation, with a register, M and an immediate. -/
theorem witness_alu : aluOperand Instr.addB.form create = some (.add, 0) ∧
    aluOperand Instr.adcM.form (start [0x8E] 0 []) = some (.adc, 0x8E) ∧
    aluOperand (Instr.sui 0xFF).form create = some (.sub, 0xFF) ∧ aluOperand Instr.sbbA.form create = some (.sbb, 0) ∧
    aluOperand Instr.anaC.form create = some (.ana, 0) ∧ aluOperand (Instr.xri 0xFF).form create = some (.xra, 0xFF) ∧
    aluOperand Instr.oraM.form create = some (.ora, 0) ∧ aluOperand (Instr.cpi 0x80).form create = some (.cmp, 0x80) := by
  decide

/-- IncrementAndDecrement, PairIncrementAndDecrement, DadWritesHlAndCarryOnly: register, M, pair, SP. -/
theorem witness_arithmetic : Instr.inrA.form = .inr (.reg .a) ∧ Instr.inrM.form = .inr .m ∧
    Instr.dcrB.form = .dcr (.reg .b) ∧ Instr.dcrM.form = .dcr .m ∧ Instr.inxSP.form = .inx .sp ∧
    Instr.dcxH.form = .dcx .hl ∧ Instr.dadSP.form = .dad .sp := by decide

/-- JumpsSetPcOnly, CallsPushTheReturnAddress, ReturnsPopThePc: each shape, the condition true and false. -/
theorem witness_branch : (Instr.jmp 0xFFFF).form = .jmp 0xFFFF ∧ (Instr.jm 1).form = .jcc .m 1 ∧
    (Instr.call 0xFFFF).form = .call 0xFFFF ∧ (Instr.cpe 1).form = .ccc .pe 1 ∧ Instr.rst7.form = .rst 7 ∧
    Instr.rnc.form = .rcc .nc ∧ condHolds .pe (start [] 0 [.flags 0 0 1 0 0]).flags = true ∧
    condHolds .pe create.flags = false := by decide

/-- PushRule, PopRule, InputAndOutput. -/
theorem witness_stack_and_ports : Instr.pushH.form = .push .hl ∧ Instr.popB.form = .pop .bc ∧
    (Instr.inP8 0xFF).form = .inPort 0xFF ∧ (Instr.outP8 0).form = .outPort 0 := by decide

/-- InputAndOutput, PushRule: a register other than A, and an address outside the stored bytes. -/
theorem witness_frame : Reg.l ≠ .a ∧ (0x0000 : Addr) ∉ pushed create ∧ Reg.b ∉ [Reg.h, Reg.l] ∧
    (0x2000 : Addr) ∉ [(0xFFFF : Addr), 0xFFFF + 1] := by decide

/-- OnlyInAndOutTouchPorts: an OUT, an IN and another instruction complete. -/
theorem witness_ports : exec (.outP8 7) create = .next { create with pc := 2, io := [.output 7 0] } ∧
    exec (.inP8 7) create = .next ((input 7 create).advance 2) ∧ exec .nop create = .next { create with pc := 1 } := by
  exact ⟨rfl, rfl, rfl⟩

/-- PcAdvancesByTheLength, at the top of memory. -/
theorem witness_pc : exec (.lda 0) (start [] 0xFFFE []) = .next (start [] 0x0001 []) ∧ transfers (Instr.lda 0).form = false := by
  exact ⟨rfl, rfl⟩

/-- FlagsOutsideTheTableAreKept: Carry under INR. -/
theorem witness_flags : exec .inrB create = .next ((increment (.reg .b) create).advance 1) ∧
    Flag.cy ∉ flagsWritten Instr.inrB.form := by exact ⟨rfl, by decide⟩

/-- InterruptEnableWrittenByEiAndDiOnly, AuxiliaryCarryIsReadByPushPswOnly. -/
theorem witness_control : Instr.hlt ≠ .ei ∧ Instr.hlt ≠ .di ∧ Instr.hlt ≠ .pushPsw ∧
    exec .hlt create = .next { create with pc := 1 } := by exact ⟨by decide, by decide, by decide, rfl⟩

/-- SpWrittenByTheListedInstructions, MemoryOutsideTheListedStoresIsKept: a push at SP 1, and an address it leaves. -/
theorem witness_stores : exec .pushB (start [] 0 [.sp 1]) = .next ((pushPair .bc (start [] 0 [.sp 1])).advance 1) ∧
    (0x0001 : Addr) ∉ storesTo Instr.pushB.form (start [] 0 [.sp 1]) := by exact ⟨rfl, by decide⟩

/-- RaiseRule, ReturnFromInterruptResumes: interrupts disabled and enabled. -/
theorem witness_raise : create.ie = false ∧ (start [] 0xFFFF [.sp 1, .ie true]).ie = true := by decide

/-- StepReportsItsCost: a step that halts, at the last address, and the shapes with a cost of their own. -/
theorem witness_step_report : step (start [0x76] 0xFFFF []) = .next (start [0x76] 0xFFFF [.pc 0x0000]) ∧
    (start [0x76] 0xFFFF []).byteAt 0xFFFF = 0x76 ∧ Instr.addL.form = .alu .add (.reg .l) ∧
    (∀ cnd target, (Instr.jz 7).form ≠ .ccc cnd target) ∧ ∀ cnd, (Instr.jz 7).form ≠ .rcc cnd := by
  exact ⟨rfl, by decide, rfl, fun _ _ h => (nomatch h), fun _ h => (nomatch h)⟩

/-- RunSlicesAddUp: a run that ends Completed after one instruction. -/
theorem witness_run : run 7 document = some { reason := .completed, total := 7, state := applyMove .step document } := by
  decide

/-- LoadImageCopiesOrRefuses: an image that just fits and one that does not. -/
theorem witness_load : (0xFFFE : Addr).toNat + [(0x11 : Byte), 0x22].length ≤ 65536 ∧
    65536 < (0xFFFE : Addr).toNat + [(0x11 : Byte), 0x22, 0x33].length ∧ (0xFFFD : Addr).toNat < (0xFFFE : Addr).toNat := by
  decide

end Sys2Proof.Tests
end

section
/-! PROOFS. The register file, parity and `SetZSP`, and the created state (spec 10_state.md). -/

namespace Sys2Proof.Machine

open Sys2Proof Sys2Proof.Claims

/-! ### Registers and pairs (R21 to R23) -/

/-- The statements and the laws name the same registers for a pair. -/
theorem regsOf_eq_pairRegs (p : Pair) : regsOf p = pairRegs p := by cases p <;> rfl

/-- The value of a pair, the high byte first as in R22. -/
theorem joinBytes_toNat_high_first (lo hi : Byte) : (joinBytes lo hi).toNat = 256 * hi.toNat + lo.toNat := by
  rw [joinBytes_toNat, Nat.mul_comm]

/-- A pair write that is not to SP leaves SP. -/
theorem State.setPair_sp_of_ne (s : State) (p : Pair) (v : Addr) (h : p ≠ .sp) : (s.setPair p v).sp = s.sp := by
  rw [State.setPair_sp, if_neg h]

/-- Settles O10: the read-after-write laws and the field laws of `setReg` and `setPair`; a pair's value is that of its two
bytes joined. -/
theorem registerAndPairWrites : Obligations.RegisterAndPairWrites := by
  unfold Obligations.RegisterAndPairWrites
  refine ⟨fun s r v => ?_, fun s => ?_, fun s p v hp => ?_⟩
  · exact ⟨s.reg_setReg_same r v, fun q hq => s.reg_setReg_ne r q v hq, s.setReg_sp r v, s.setReg_pc r v,
      s.setReg_flags r v, s.setReg_ie r v, s.setReg_mem r v, s.setReg_io r v⟩
  · exact ⟨joinBytes_toNat_high_first (s.reg .c) (s.reg .b), joinBytes_toNat_high_first (s.reg .e) (s.reg .d),
      joinBytes_toNat_high_first (s.reg .l) (s.reg .h)⟩
  · have outside : ∀ q, q ∉ regsOf p → (s.setPair p v).reg q = s.reg q := fun q hq =>
      s.reg_setPair_ne p v q (regsOf_eq_pairRegs p ▸ hq)
    exact ⟨s.pair_setPair_same p v, outside, s.setPair_sp_of_ne p v hp, s.setPair_pc p v, s.setPair_flags p v,
      s.setPair_ie p v, s.setPair_mem p v, s.setPair_io p v⟩

/-! ### Parity and SetZSP (R29, R30) -/

/-- The bit count is the number of positions whose bit is 1. -/
theorem popcount_eq_length_filter (v : Byte) :
    popcount v = ((List.range 8).filter (fun k => v.getLsbD k)).length :=
  List.countP_eq_length_filter

theorem parity8_iff (v : Byte) : parity8 v = true ↔ popcount v % 2 = 0 := beq_iff_eq

theorem setZSP_z_iff (v : Byte) (f : Flags) : (setZSP v f).z = true ↔ v = 0 := beq_iff_eq

@[simp] theorem setZSP_s (v : Byte) (f : Flags) : (setZSP v f).s = v.getLsbD 7 := rfl

@[simp] theorem setZSP_p (v : Byte) (f : Flags) : (setZSP v f).p = parity8 v := rfl

@[simp] theorem setZSP_cy (v : Byte) (f : Flags) : (setZSP v f).cy = f.cy := rfl

@[simp] theorem setZSP_ac (v : Byte) (f : Flags) : (setZSP v f).ac = f.ac := rfl

/-- Settles O15: parity is the evenness of the bit count, and `SetZSP` flag by flag. -/
theorem parityAndSetZsp : Obligations.ParityAndSetZsp := by
  unfold Obligations.ParityAndSetZsp
  refine ⟨fun v => ?_, fun v f => ?_⟩
  · rw [← popcount_eq_length_filter]
    exact parity8_iff v
  · exact ⟨setZSP_z_iff v f, setZSP_s v f, setZSP_p v f, setZSP_cy v f, setZSP_ac v f⟩

/-! ### The created state (R43) -/

@[simp] theorem create_reg (r : Reg) : create.reg r = 0 := by cases r <;> rfl

@[simp] theorem create_pc : create.pc = 0 := rfl

@[simp] theorem create_sp : create.sp = 0 := rfl

@[simp] theorem create_ie : create.ie = false := rfl

@[simp] theorem create_flags : create.flags = { z := false, s := false, p := false, cy := false, ac := false } := rfl

@[simp] theorem create_mem : create.mem = [] := rfl

/-- No byte is listed in the created memory, so every address reads 0x00. -/
@[simp] theorem create_byteAt (a : Addr) : create.byteAt a = 0 := by
  rw [State.byteAt, create_mem, Memory.read_nil]

/-- Settles O18: field by field, and the empty memory reads 0x00 at every address. -/
theorem createZeroesEveryField : Obligations.CreateZeroesEveryField := by
  unfold Obligations.CreateZeroesEveryField
  refine ⟨create_reg, create_pc, create_sp, create_ie, ?_⟩
  rw [create_flags]
  exact ⟨rfl, rfl, rfl, rfl, rfl, create_byteAt⟩

end Sys2Proof.Machine
end

section
/-! PROOFS. Memory reads after writes (spec 20_memory.md). -/

namespace Sys2Proof.Machine

open Sys2Proof

/-- Settles O11: the read-after-write law of `byteAt` at the same and at another address (R60, R61), and the field laws of
`setByte` for all that is not memory. -/
theorem memoryReadAfterWrite : Obligations.MemoryReadAfterWrite := by
  unfold Obligations.MemoryReadAfterWrite
  intro s a v
  have elsewhere : ∀ b, b ≠ a → (s.setByte a v).byteAt b = s.byteAt b := fun b hb => s.byteAt_setByte_ne a b v hb
  exact ⟨s.byteAt_setByte_same a v, elsewhere, s.setByte_regs a v, s.setByte_sp a v, s.setByte_pc a v,
    s.setByte_flags a v, s.setByte_ie a v, s.setByte_io a v⟩

end Sys2Proof.Machine
end

section
/-! PROOFS. The faulting byte, completion of every other instruction, and taking an interrupt (spec 60_exceptions.md). -/

namespace Sys2Proof

/-! ### Which bytes the map gives no handler (R99, R101) -/

/-- Whatever the operand bytes, the entry's handler is that of an instruction other than `no_instruction`; or the entry has no
handler. -/
def OpcodeEntry.Proper : OpcodeEntry → Prop
  | .len1 i => ∀ op, i ≠ .noInstruction op
  | .len2 f => ∀ b1 op, f b1 ≠ .noInstruction op
  | .len3 f => ∀ w op, f w ≠ .noInstruction op
  | .fault => True

/-- No handler of the map is that of the faulting bytes, in any of its sixteen rows (R99). -/
theorem proper_of_mem_opcodeRows : ∀ row ∈ opcodeRows, ∀ e ∈ row, e.Proper := by
  simp [opcodeRows, opcodeRow0, opcodeRow1, opcodeRow2, opcodeRow3, opcodeRow4, opcodeRow5, opcodeRow6, opcodeRow7,
    opcodeRow8, opcodeRow9, opcodeRowA, opcodeRowB, opcodeRowC, opcodeRowD, opcodeRowE, opcodeRowF, OpcodeEntry.Proper]

/-- A lookup with a default has every property that the elements and the default have. -/
theorem forall_getD {α : Type} {P : α → Prop} {l : List α} {d : α} (hl : ∀ x ∈ l, P x) (hd : P d) (k : Nat) :
    P (l.getD k d) := by
  rcases Nat.lt_or_ge k l.length with hk | hk
  · rw [List.getD_eq_getElem l d hk]
    exact hl _ (List.getElem_mem hk)
  · rwa [List.getD_eq_default l d hk]

theorem proper_opcodeEntry (op : Byte) : (opcodeEntry op).Proper := by
  have hrow : ∀ e ∈ opcodeRows.getD (op.toNat / 16) [], e.Proper :=
    forall_getD (P := fun row : List OpcodeEntry => ∀ e ∈ row, e.Proper) proper_of_mem_opcodeRows (by simp) _
  have hdefault : OpcodeEntry.fault.Proper := trivial
  exact forall_getD hrow hdefault _

/-- Decoding answers `no_instruction` exactly for the thirteen bytes of R101, and then with the byte itself. -/
theorem decodeOp_eq_noInstruction_iff (op b1 b2 op' : Byte) :
    decodeOp op b1 b2 = .noInstruction op' ↔ op ∈ illegalBytes ∧ op' = op := by
  have hfault : (opcodeEntry op).isFault = true ↔ op ∈ illegalBytes := by
    rw [isFault_opcodeEntry, List.contains_iff_mem]
  have hproper := proper_opcodeEntry op
  rw [← hfault, decodeOp]
  revert hproper
  cases opcodeEntry op with
  | len1 i => exact fun h => by simpa [OpcodeEntry.isFault] using h op'
  | len2 f => exact fun h => by simpa [OpcodeEntry.isFault] using h b1 op'
  | len3 f => exact fun h => by simpa [OpcodeEntry.isFault] using h (joinBytes b1 b2) op'
  | fault => simp [OpcodeEntry.isFault, eq_comm]

/-- The shape of the faulting bytes is that of `no_instruction` and of nothing else. -/
theorem Instr.form_eq_illegal_iff (i : Instr) (op : Byte) : i.form = .illegal op ↔ i = .noInstruction op := by
  cases i <;> simp [Instr.form]

end Sys2Proof

namespace Sys2Proof.Machine

open Sys2Proof

/-! ### What an instruction and a step answer (R280, R282) -/

@[simp] theorem exec_noInstruction (op : Byte) (s : State) :
    exec (.noInstruction op) s = .fault (.unimplementedOrIllegalOpcode op s.pc) := rfl

/-- Every shape but that of the faulting bytes completes. -/
theorem formEffect_completes (fm : Form) (s : State) (h : ∀ op, fm ≠ .illegal op) : ∃ t, formEffect fm s = .next t := by
  cases fm
  case illegal op => exact absurd rfl (h op)
  all_goals exact ⟨_, rfl⟩

/-- Every instruction but `no_instruction` completes in every state. -/
theorem exec_completes (i : Instr) (s : State) (h : ∀ op, i ≠ .noInstruction op) : ∃ t, exec i s = .next t := by
  rw [exec_eq_formEffect]
  exact formEffect_completes i.form s fun op hop => h op ((i.form_eq_illegal_iff op).mp hop)

theorem fetch_eq_noInstruction_iff (s : State) (op : Byte) :
    s.fetch = .noInstruction op ↔ s.byteAt s.pc ∈ illegalBytes ∧ op = s.byteAt s.pc :=
  decodeOp_eq_noInstruction_iff _ _ _ _

theorem step_of_mem_illegalBytes (s : State) (h : s.byteAt s.pc ∈ illegalBytes) :
    step s = .fault (.unimplementedOrIllegalOpcode (s.byteAt s.pc) s.pc) := by
  rw [step, (fetch_eq_noInstruction_iff s _).mpr ⟨h, rfl⟩, exec_noInstruction]

theorem step_of_not_mem_illegalBytes (s : State) (h : s.byteAt s.pc ∉ illegalBytes) : ∃ t, step s = .next t :=
  exec_completes s.fetch s fun op hop => h ((fetch_eq_noInstruction_iff s op).mp hop).1

theorem step_ne_refused (s : State) (r : Refusal) : step s ≠ .refused r := exec_ne_refused s.fetch s r

/-- As a move of the host a step that faults leaves the state (R127). -/
theorem applyMove_step_of_fault (s : State) (f : Fault) (h : step s = .fault f) : applyMove .step s = s := by
  simp only [applyMove, h]

/-- Settles O8: the meaning of `no_instruction`, and the step at a byte for which decoding answers it. -/
theorem byteWithNoHandlerFaults : Obligations.ByteWithNoHandlerFaults := by
  unfold Obligations.ByteWithNoHandlerFaults
  refine ⟨exec_noInstruction, fun s h => ?_⟩
  have hstep := step_of_mem_illegalBytes s h
  exact ⟨hstep, applyMove_step_of_fault s _ hstep⟩

/-- Settles O9: the fetched instruction is `no_instruction` exactly at the thirteen bytes, and every other instruction
completes. -/
theorem nothingElseFaults : Obligations.NothingElseFaults := by
  unfold Obligations.NothingElseFaults
  refine ⟨fun s => ⟨?_, step_of_not_mem_illegalBytes s⟩, step_ne_refused, fun i s => exec_completes i s⟩
  rintro ⟨t, ht⟩ hmem
  rw [step_of_mem_illegalBytes s hmem] at ht
  cases ht

/-! ### Taking an interrupt (R285, R290) -/

theorem raise_of_disabled (n : RstVector) (s : State) (h : s.ie = false) : raise n s = s := by
  rcases raise_cases n s with ⟨-, hr⟩ | ⟨hie, -⟩
  · exact hr
  · simp [h] at hie

theorem raise_of_enabled (n : RstVector) (s : State) (h : s.ie = true) :
    raise n s = { (s.push16 s.pc).setPc (vectorAddr n) with ie := false } := by
  rcases raise_cases n s with ⟨hie, -⟩ | ⟨-, hr⟩
  · simp [h] at hie
  · exact hr

/-- The word on top of the stack after the entry is the interrupted PC. -/
theorem top16_raise (n : RstVector) (s : State) (h : s.ie = true) : (raise n s).top16 = s.pc := by
  rw [raise_of_enabled n s h]
  exact s.top16_push16 s.pc

/-- RET completes and goes to the word on top of the stack (R234). -/
theorem exec_ret_pc (s : State) : ∃ t, exec .ret s = .next t ∧ t.pc = s.top16 := ⟨returnOp s, rfl, rfl⟩

/-- Settles O54: `raise` in its two cases, field by field where it is taken; a RET pops the PC that was pushed. -/
theorem raiseRule : Obligations.RaiseRule := by
  unfold Obligations.RaiseRule
  refine ⟨raise_of_disabled, fun n s h => ?_⟩
  have hret := exec_ret_pc (raise n s)
  rw [top16_raise n s h, raise_of_enabled n s h] at hret
  rw [raise_of_enabled n s h]
  exact ⟨State.setPc_mem _ (vectorAddr n), State.setPc_sp _ (vectorAddr n), vectorAddr_toNat n, rfl,
    s.push16_regs s.pc, s.push16_flags s.pc, s.push16_io s.pc, hret⟩

end Sys2Proof.Machine
end

section
/-! PROOFS. The opcode map and the formats agree (spec 30_encoding.md). The map is read as columns over the 256 opcode
bytes: the instruction a byte selects, the bytes the formats give that instruction, its length. -/

namespace Sys2Proof

open Sys2Proof.Machine Sys2Proof.Claims

/-! ### What an entry of the map selects -/

/-- The instruction an entry selects for opcode byte `op`, with one-byte operand `b` or two-byte operand `w`. -/
def OpcodeEntry.select (op : Byte) (b : Byte) (w : Addr) : OpcodeEntry → Instr
  | .len1 i => i
  | .len2 f => f b
  | .len3 f => f w
  | .fault => .noInstruction op

/-- The operand bytes that follow the opcode byte of an entry, for the same operands (R95, R96). -/
def OpcodeEntry.operands (b : Byte) (w : Addr) : OpcodeEntry → List Byte
  | .len1 _ => []
  | .len2 _ => [b]
  | .len3 _ => operandBytes w
  | .fault => []

/-- The instruction the map selects for an opcode byte. -/
def selected (op b : Byte) (w : Addr) : Instr := (opcodeEntry op).select op b w

theorem decodeOp_eq_selected (op b1 b2 : Byte) : decodeOp op b1 b2 = selected op b1 (joinBytes b1 b2) := by
  rw [decodeOp, selected]
  cases opcodeEntry op <;> rfl

/-- Decoding operand bytes gives the instruction selected with those operands. -/
theorem decodeOperands_operands (op b : Byte) (w : Addr) (e : OpcodeEntry) (rest : List Byte) :
    decodeOperands op e (e.operands b w ++ rest) = .ok (e.select op b w) rest := by
  cases e with
  | len3 f => exact congrArg (fun v => DecodeResult.ok (f v) rest) (joinBytes_low_high w)
  | len1 i => rfl
  | len2 f => rfl
  | fault => rfl

/-- Bytes that decode are the operand bytes of some operands and what is left. -/
theorem exists_operands_of_decodeOperands (op : Byte) (e : OpcodeEntry) (bytes rest : List Byte) (i : Instr)
    (h : decodeOperands op e bytes = .ok i rest) :
    ∃ b w, i = e.select op b w ∧ bytes = e.operands b w ++ rest := by
  cases e with
  | len1 j => cases h; exact ⟨0, 0, rfl, rfl⟩
  | len2 f =>
    cases bytes with
    | nil => cases h
    | cons b bytes => cases h; exact ⟨b, 0, rfl, rfl⟩
  | len3 f =>
    rcases bytes with _ | ⟨lo, _ | ⟨hi, bytes⟩⟩
    · cases h
    · cases h
    · cases h; exact ⟨0, joinBytes lo hi, rfl, by simp [OpcodeEntry.operands, operandBytes]⟩
  | fault => cases h; exact ⟨0, 0, rfl, rfl⟩

/-! ### The columns of the map -/

/-- Two columns over the 256 opcode bytes that are equal as lists agree at every byte. -/
theorem eq_of_columns {α : Type} (f g : Byte → α)
    (h : (List.finRange 256).map (fun n => f (BitVec.ofFin n)) =
      (List.finRange 256).map (fun n => g (BitVec.ofFin n)))
    (op : Byte) : f op = g op :=
  List.map_inj_left.mp h op.toFin (List.mem_finRange op.toFin)

set_option maxRecDepth 2000 in
/-- The formats of R91 give every entry of the map its own opcode byte and its operand bytes. -/
theorem encode_selected (op b : Byte) (w : Addr) : encode (selected op b w) = op :: (opcodeEntry op).operands b w :=
  eq_of_columns (fun op => encode (selected op b w)) (fun op => op :: (opcodeEntry op).operands b w) rfl op

set_option maxRecDepth 2000 in
theorem wf_selected (op b : Byte) (w : Addr) : (selected op b w).wf = true :=
  eq_of_columns (fun op => (selected op b w).wf) (fun _ => true) rfl op

set_option maxRecDepth 2000 in
theorem length_selected (op b : Byte) (w : Addr) : (selected op b w).length = opcodeLength op :=
  eq_of_columns (fun op => (selected op b w).length) opcodeLength rfl op

/-! ### Every well-formed instruction stands in the map -/

/-- The one-byte operand of a shape; 0x00 where it has none. -/
def Form.imm8 : Form → Byte
  | .mviR _ v | .mviM v | .aluImm _ v | .inPort v | .outPort v => v
  | _ => 0

/-- The two-byte operand of a shape; 0x0000 where it has none. -/
def Form.imm16 : Form → Addr
  | .lxi _ w | .lda w | .sta w | .lhld w | .shld w | .jmp w | .jcc _ w | .call w | .ccc _ w => w
  | _ => 0

theorem opcodeEntry_of_mem_illegalBytes (op : Byte) (h : op ∈ illegalBytes) : opcodeEntry op = .fault := by
  have hf : (opcodeEntry op).isFault = true := by rw [isFault_opcodeEntry, List.contains_iff_mem]; exact h
  revert hf
  cases opcodeEntry op <;> simp [OpcodeEntry.isFault]

/-- The map selects a well-formed instruction at the opcode byte its formats give it, with its own operands. -/
theorem selected_at_first_byte (i : Instr) (h : i.wf = true) :
    (encode i).head?.map (fun op => selected op i.form.imm8 i.form.imm16) = some i := by
  cases i
  case noInstruction op =>
    have hop : op ∈ illegalBytes := List.contains_iff_mem.mp h
    show some ((opcodeEntry op).select op 0 0) = _
    rw [opcodeEntry_of_mem_illegalBytes op hop]
    rfl
  all_goals rfl

/-- Every well-formed instruction stands in the map. -/
theorem exists_selected_eq (i : Instr) (h : i.wf = true) : ∃ op b w, selected op b w = i := by
  obtain ⟨op, -, hop⟩ := Option.map_eq_some_iff.mp (selected_at_first_byte i h)
  exact ⟨op, _, _, hop⟩

/-! ### Encoding and decoding undo each other (O1, O2) -/

theorem decode_encode_selected (op b : Byte) (w : Addr) (rest : List Byte) :
    decode (encode (selected op b w) ++ rest) = .ok (selected op b w) rest := by
  rw [encode_selected]
  exact decodeOperands_operands op b w (opcodeEntry op) rest

theorem decode_encode (i : Instr) (rest : List Byte) (h : i.wf = true) : decode (encode i ++ rest) = .ok i rest := by
  obtain ⟨op, b, w, rfl⟩ := exists_selected_eq i h
  exact decode_encode_selected op b w rest

/-- Whatever decodes was selected by its first byte, and the bytes are its encoding. -/
theorem exists_selected_of_decode (bytes rest : List Byte) (i : Instr) (h : decode bytes = .ok i rest) :
    ∃ op b w, i = selected op b w ∧ bytes = encode i ++ rest := by
  cases bytes with
  | nil => cases h
  | cons op bytes =>
    obtain ⟨b, w, rfl, rfl⟩ := exists_operands_of_decodeOperands op (opcodeEntry op) bytes rest i h
    exact ⟨op, b, w, rfl, congrArg (· ++ rest) (encode_selected op b w).symm⟩

/-- Settles O1: the instruction stands in the map, and decoding what the map selects gives it back. -/
theorem decodeOfEncodeIsTheInstruction : Obligations.DecodeOfEncodeIsTheInstruction := by
  unfold Obligations.DecodeOfEncodeIsTheInstruction
  exact decode_encode

/-- Settles O2: what decodes was selected by the map, whose entries give back their own bytes. -/
theorem encodeOfDecodeIsTheBytes : Obligations.EncodeOfDecodeIsTheBytes := by
  unfold Obligations.EncodeOfDecodeIsTheBytes
  intro bytes rest i h
  obtain ⟨op, b, w, rfl, hbytes⟩ := exists_selected_of_decode bytes rest i h
  exact ⟨hbytes.symm, wf_selected op b w⟩

/-- Settles O3: each word is evaluated. -/
theorem wordsOfTheSpecDecode : Obligations.WordsOfTheSpecDecode := by
  unfold Obligations.WordsOfTheSpecDecode
  decide

/-! ### Lengths and the bytes with no handler (O4, O5) -/

/-- An instruction that has a length has as many bytes. -/
theorem length_encode_of_length (i : Instr) (n : Nat) (h : i.length = some n) : (encode i).length = n := by
  unfold Instr.length at h
  unfold encode
  revert h
  cases i.form
  case illegal op => exact fun h => nomatch h
  all_goals exact fun h => Option.some.inj h

theorem opcodeLength_of_not_mem_illegalBytes (op : Byte) (h : op ∉ illegalBytes) :
    opcodeLength op = some 1 ∨ opcodeLength op = some 2 ∨ opcodeLength op = some 3 := by
  have hf : (opcodeEntry op).isFault ≠ true := by rwa [isFault_opcodeEntry, Ne, List.contains_iff_mem]
  rw [opcodeLength]
  revert hf
  cases opcodeEntry op with
  | len1 i => exact fun _ => .inl rfl
  | len2 f => exact fun _ => .inr (.inl rfl)
  | len3 f => exact fun _ => .inr (.inr rfl)
  | fault => exact fun hf => absurd rfl hf

theorem opcodeLength_of_mem_illegalBytes (op : Byte) (h : op ∈ illegalBytes) : opcodeLength op = none := by
  rw [opcodeLength, opcodeEntry_of_mem_illegalBytes op h]
  rfl

/-- Settles O4: the length column of the map, and the bytes of what decodes. -/
theorem lengthIsAFunctionOfTheOpcodeByte : Obligations.LengthIsAFunctionOfTheOpcodeByte := by
  unfold Obligations.LengthIsAFunctionOfTheOpcodeByte
  refine ⟨fun op b1 b2 => ?_, opcodeLength_of_not_mem_illegalBytes, opcodeLength_of_mem_illegalBytes,
    fun bytes rest i n h hn => ?_⟩
  · rw [decodeOp_eq_selected, length_selected]
  · obtain ⟨op, b, w, -, hbytes⟩ := exists_selected_of_decode bytes rest i h
    have hlen := length_encode_of_length i n hn
    exact ⟨by rw [hbytes, List.length_append, hlen], hlen⟩

/-- Settles O5: decoding answers `no_instruction` exactly at the thirteen bytes, and then of the byte itself; the
count is evaluated. -/
theorem thirteenBytesHaveNoHandler : Obligations.ThirteenBytesHaveNoHandler := by
  unfold Obligations.ThirteenBytesHaveNoHandler
  refine ⟨fun op b1 b2 => ?_, fun op op' b1 b2 h => ?_, by decide⟩
  · rw [decodeOp_eq_noInstruction_iff]
    exact and_iff_left rfl
  · exact ((decodeOp_eq_noInstruction_iff op b1 b2 op').mp h).2

/-! ### What the next step runs (O6, O7) -/

theorem step_of_decode (s : State) (i : Instr) (rest : List Byte)
    (h : decode [s.byteAt s.pc, s.byteAt (s.pc + 1), s.byteAt (s.pc + 2)] = .ok i rest) : step s = exec i s := by
  rw [decode_three] at h
  cases h
  rfl

/-- Settles O6: decoding the three bytes at PC gives the fetched instruction. -/
theorem stepRunsTheDecodedInstruction : Obligations.StepRunsTheDecodedInstruction := by
  unfold Obligations.StepRunsTheDecodedInstruction
  exact step_of_decode

theorem length_encode_le_three (i : Instr) : (encode i).length ≤ 3 := by
  unfold encode
  cases i.form <;> simp [Form.encode, operandBytes]

/-- Up to three bytes that stand in memory begin the three bytes read from there. -/
theorem exists_append_of_bytesAt (s : State) (a : Addr) (l : List Byte) (hl : l.length ≤ 3) (h : BytesAt s a l) :
    ∃ rest, [s.byteAt a, s.byteAt (a + 1), s.byteAt (a + 2)] = l ++ rest := by
  have hnext : a + 1 + 1 = a + 2 := by bv_omega
  rcases l with _ | ⟨v0, _ | ⟨v1, _ | ⟨v2, _ | ⟨v3, l⟩⟩⟩⟩
  · exact ⟨_, rfl⟩
  · obtain ⟨rfl, -⟩ := h
    exact ⟨_, rfl⟩
  · obtain ⟨rfl, rfl, -⟩ := h
    exact ⟨_, rfl⟩
  · obtain ⟨rfl, rfl, rfl, -⟩ := h
    exact ⟨[], by rw [hnext]; rfl⟩
  · simp only [List.length_cons] at hl
    omega

theorem step_of_bytesAt (s : State) (i : Instr) (hwf : i.wf = true) (h : BytesAt s s.pc (encode i)) :
    step s = exec i s := by
  obtain ⟨rest, hrest⟩ := exists_append_of_bytesAt s s.pc (encode i) (length_encode_le_three i) h
  exact step_of_decode s i rest (hrest ▸ decode_encode i rest hwf)

/-! ### Bytes stored in a row (R64, R74) -/

@[simp] theorem placeBytes_pc (s : State) (a : Addr) (l : List Byte) : (placeBytes s a l).pc = s.pc := by
  induction l generalizing s a with
  | nil => rfl
  | cons v l ih => rw [placeBytes, ih, State.setByte_pc]

/-- An address that is none of those written reads as before. -/
theorem byteAt_placeBytes_of_ne (s : State) (a b : Addr) (l : List Byte)
    (h : ∀ k < l.length, b ≠ a + BitVec.ofNat 16 k) : (placeBytes s a l).byteAt b = s.byteAt b := by
  induction l generalizing s a with
  | nil => rfl
  | cons v l ih =>
    have hb : b ≠ a := by simpa using h 0 (Nat.succ_pos _)
    rw [placeBytes, ih, State.byteAt_setByte_ne _ _ _ _ hb]
    intro k hk
    have := h (k + 1) (Nat.succ_lt_succ hk)
    rwa [show a + 1 + BitVec.ofNat 16 k = a + BitVec.ofNat 16 (k + 1) by bv_omega]

/-- No two of 65536 addresses in a row are equal. -/
theorem addr_ne_add_succ (a : Addr) (k : Nat) (hk : k + 1 < 65536) : a ≠ a + 1 + BitVec.ofNat 16 k := by bv_omega

/-- Bytes placed in a row stand there. -/
theorem bytesAt_placeBytes (s : State) (a : Addr) (l : List Byte) (hl : l.length ≤ 65536) :
    BytesAt (placeBytes s a l) a l := by
  induction l generalizing s a with
  | nil => trivial
  | cons v l ih =>
    rw [List.length_cons] at hl
    refine ⟨?_, ih _ _ (by omega)⟩
    rw [placeBytes, byteAt_placeBytes_of_ne _ _ _ _ fun k hk => addr_ne_add_succ a k (by omega),
      State.byteAt_setByte_same]

/-- Settles O7: bytes that stand at PC are what decoding meets there, and placed bytes stand there. -/
theorem storedInstructionIsTheNextFetched : Obligations.StoredInstructionIsTheNextFetched := by
  unfold Obligations.StoredInstructionIsTheNextFetched
  refine ⟨step_of_bytesAt, fun s i hwf => step_of_bytesAt _ i hwf ?_⟩
  rw [placeBytes_pc]
  exact bytesAt_placeBytes s s.pc (encode i) (by have := length_encode_le_three i; omega)

end Sys2Proof
end

section
/-! PROOFS. What each shape of instruction writes and what it leaves (spec 10_state.md, 20_memory.md): one lemma per part
of the state, by cases on the 48 shapes. The rules over all instructions are these lemmas; the frames of the single rules
are read off them. -/

namespace Sys2Proof.Machine

open Sys2Proof Sys2Proof.Claims

/-! ### The shared operations as writes of single parts of the state -/

section Operations

variable (s : State)

@[simp] theorem moveReg_eq (dst src : Reg) : moveReg dst src s = s.setReg dst (s.reg src) := rfl

@[simp] theorem loadMem_eq (dst : Reg) : loadMem dst s = s.setReg dst (s.byteAt (s.pair .hl)) := rfl

@[simp] theorem storeMem_eq (src : Reg) : storeMem src s = s.setByte (s.pair .hl) (s.reg src) := rfl

@[simp] theorem moveImm_eq (dst : Reg) (imm : Byte) : moveImm dst imm s = s.setReg dst imm := rfl

@[simp] theorem storeImm_eq (imm : Byte) : storeImm imm s = s.setByte (s.pair .hl) imm := rfl

@[simp] theorem loadPairImm_eq (p : Pair) (imm : Addr) : loadPairImm p imm s = s.setPair p imm := rfl

@[simp] theorem loadAcc_eq (addr : Addr) : loadAcc addr s = s.setReg .a (s.byteAt addr) := rfl

@[simp] theorem storeAcc_eq (addr : Addr) : storeAcc addr s = s.setByte addr (s.reg .a) := rfl

@[simp] theorem loadHL_eq (addr : Addr) : loadHL addr s = s.setPair .hl (s.wordAt addr) := rfl

@[simp] theorem storeHL_eq (addr : Addr) : storeHL addr s = s.setWord addr (s.pair .hl) := rfl

@[simp] theorem loadAccIndirect_eq (p : IndexPair) :
    loadAccIndirect p s = s.setReg .a (s.byteAt (s.indexAddr p)) := rfl

@[simp] theorem storeAccIndirect_eq (p : IndexPair) :
    storeAccIndirect p s = s.setByte (s.indexAddr p) (s.reg .a) := rfl

@[simp] theorem exchange_eq : exchange s = (s.setPair .hl (s.pair .de)).setPair .de (s.pair .hl) := rfl

@[simp] theorem spFromHL_eq : spFromHL s = s.setPair .sp (s.pair .hl) := rfl

@[simp] theorem incrementPair_eq (p : Pair) : incrementPair p s = s.setPair p (s.pair p + 1) := rfl

@[simp] theorem decrementPair_eq (p : Pair) : decrementPair p s = s.setPair p (s.pair p - 1) := rfl

@[simp] theorem addPair_eq (p : Pair) : addPair p s =
    (s.setPair .hl (BitVec.ofNat 16 ((s.pair .hl).toNat + (s.pair p).toNat))).setCarry
      (decide (65535 < (s.pair .hl).toNat + (s.pair p).toNat)) := rfl

@[simp] theorem rotateLeft_eq : rotateLeft s =
    (s.setReg .a ((s.reg .a <<< 1) ||| flagBit ((s.reg .a).getLsbD 7))).setCarry ((s.reg .a).getLsbD 7) := rfl

@[simp] theorem rotateRight_eq : rotateRight s =
    (s.setReg .a ((s.reg .a >>> 1) ||| (flagBit ((s.reg .a).getLsbD 0) <<< 7))).setCarry ((s.reg .a).getLsbD 0) := rfl

@[simp] theorem rotateLeftCarry_eq : rotateLeftCarry s =
    (s.setReg .a ((s.reg .a <<< 1) ||| flagBit s.flags.cy)).setCarry ((s.reg .a).getLsbD 7) := rfl

@[simp] theorem rotateRightCarry_eq : rotateRightCarry s =
    (s.setReg .a ((s.reg .a >>> 1) ||| (flagBit s.flags.cy <<< 7))).setCarry ((s.reg .a).getLsbD 0) := rfl

@[simp] theorem complementA_eq : complementA s = s.setReg .a (~~~(s.reg .a)) := rfl

@[simp] theorem setCarry_eq : setCarry s = s.setCarry true := rfl

@[simp] theorem complementCarry_eq : complementCarry s = s.setCarry (!s.flags.cy) := rfl

@[simp] theorem jumpTo_eq (target : Addr) : jumpTo target s = s.setPc target := rfl

@[simp] theorem jumpIf_eq (cnd : Cond) (target : Addr) :
    jumpIf cnd target s = s.setPc (if condHolds cnd s.flags then target else s.pc + 3) := by
  unfold jumpIf; split <;> rfl

@[simp] theorem callTo_eq (target : Addr) : callTo target s = (s.push16 (s.pc + 3)).setPc target := rfl

@[simp] theorem returnOp_eq : returnOp s = s.pop16.setPc s.top16 := rfl

@[simp] theorem restart_eq (n : RstVector) : restart n s = (s.push16 (s.pc + 1)).setPc (vectorAddr n) := rfl

@[simp] theorem jumpHL_eq : jumpHL s = s.setPc (s.pair .hl) := rfl

@[simp] theorem pushPair_eq (p : StackPair) : pushPair p s = s.push16 (s.pair (stackPair p)) := rfl

@[simp] theorem pushStatus_eq : pushStatus s = s.push16 s.psw := rfl

@[simp] theorem popPair_eq (p : StackPair) : popPair p s = s.pop16.setPair (stackPair p) s.top16 := rfl

@[simp] theorem popStatus_eq : popStatus s =
    (s.pop16.setFlags (unpackFlags (lowByte s.top16))).setReg .a (highByte s.top16) := rfl

@[simp] theorem exchangeStack_eq : exchangeStack s = (s.setWord s.sp (s.pair .hl)).setPair .hl (s.wordAt s.sp) := rfl

@[simp] theorem input_eq (port : Byte) :
    input port s = (s.recordInput port (s.portRead port)).setReg .a (s.portRead port) := rfl

@[simp] theorem output_eq (port : Byte) : output port s = s.portWrite port (s.reg .a) := rfl

@[simp] theorem enableInterrupts_eq : enableInterrupts s = { s with ie := true } := rfl

@[simp] theorem disableInterrupts_eq : disableInterrupts s = { s with ie := false } := rfl

@[simp] theorem increment_eq (o : Operand8) : increment o s =
    (writeOperand o (readOperand o s + 1) s).setFlags (inrFlags (readOperand o s) s.flags) := rfl

@[simp] theorem decrement_eq (o : Operand8) : decrement o s =
    (writeOperand o (readOperand o s - 1) s).setFlags (dcrFlags (readOperand o s) s.flags) := rfl

@[simp] theorem writeOperand_reg (r : Reg) (v : Byte) : writeOperand (.reg r) v s = s.setReg r v := rfl

@[simp] theorem writeOperand_m (v : Byte) : writeOperand .m v s = s.setByte (s.pair .hl) v := rfl

/-! What a written operand leaves: a register or a byte of memory, and no other part of the state. -/

@[simp] theorem writeOperand_sp (o : Operand8) (v : Byte) : (writeOperand o v s).sp = s.sp := by
  cases o <;> simp

@[simp] theorem writeOperand_pc (o : Operand8) (v : Byte) : (writeOperand o v s).pc = s.pc := by
  cases o <;> simp

@[simp] theorem writeOperand_ie (o : Operand8) (v : Byte) : (writeOperand o v s).ie = s.ie := by
  cases o <;> simp

@[simp] theorem writeOperand_io (o : Operand8) (v : Byte) : (writeOperand o v s).io = s.io := by
  cases o <;> simp

/-! Calls and returns on a condition. -/

@[simp] theorem callIf_eq (cnd : Cond) (target : Addr) :
    callIf cnd target s = if condHolds cnd s.flags then callTo target s else s.advance 3 := rfl

@[simp] theorem returnIf_eq (cnd : Cond) :
    returnIf cnd s = if condHolds cnd s.flags then returnOp s else s.advance 1 := rfl

end Operations

@[simp] theorem stackPair_ne_sp (p : StackPair) : stackPair p ≠ .sp := by cases p <;> decide

theorem flags_ext {f g : Flags} (hz : f.z = g.z) (hs : f.s = g.s) (hp : f.p = g.p) (hcy : f.cy = g.cy)
    (hac : f.ac = g.ac) : f = g := by
  cases f; cases g; cases hz; cases hs; cases hp; cases hcy; cases hac; rfl

/-- A pair write leaves the registers that `regsOf` does not list (R23). -/
theorem reg_setPair_of_not_mem (s : State) (p : Pair) (v : Addr) (q : Reg) (h : q ∉ regsOf p) :
    (s.setPair p v).reg q = s.reg q :=
  s.reg_setPair_ne p v q (regsOf_eq_pairRegs p ▸ h)

/-! ### The frame, part by part -/

section Frame

variable {fm : Form} {s t : State}

/-- SP after an instruction (R27). -/
theorem sp_of_formEffect (h : formEffect fm s = .next t) : t.sp = spAfter fm s := by
  cases fm
  case inx p => cases h; cases p <;> rfl
  case dcx p => cases h; cases p <;> rfl
  all_goals cases h <;> simp [spAfter, apply_ite State.sp]

/-- The port record after an instruction: IN and OUT add an event, nothing else does (R77). -/
def ioAfter (fm : Form) (s : State) : List PortEvent :=
  match fm with
  | .inPort port => .input port (s.portRead port) :: s.io
  | .outPort port => .output port (s.reg .a) :: s.io
  | _ => s.io

theorem io_of_formEffect (h : formEffect fm s = .next t) : t.io = ioAfter fm s := by
  cases fm <;> cases h <;> simp [ioAfter, apply_ite State.io]

/-- IE after an instruction: EI and DI assign it, nothing else does (R36). -/
def ieAfter (fm : Form) (s : State) : Bool :=
  match fm with
  | .ei => true
  | .di => false
  | _ => s.ie

theorem ie_of_formEffect (h : formEffect fm s = .next t) : t.ie = ieAfter fm s := by
  cases fm <;> cases h <;> simp [ieAfter, apply_ite State.ie]

/-- PC after an instruction that is no control transfer: it advances by the number of its bytes (R26, R123). -/
theorem pc_of_formEffect (h : formEffect fm s = .next t) (hfm : transfers fm = false) :
    t.pc = s.pc + BitVec.ofNat 16 fm.encode.length := by
  cases fm <;> cases h <;> simp_all [transfers, Form.encode, operandBytes]

/-- A flag that is not in the table of R34 for the shape keeps its value. -/
theorem flag_of_formEffect (h : formEffect fm s = .next t) (x : Flag) (hx : x ∉ flagsWritten fm) :
    flag t.flags x = flag s.flags x := by
  cases fm
  case alu | aluImm | popPsw => cases x <;> simp [flagsWritten] at hx
  case inr o => cases h; cases x <;> simp [flagsWritten, flag] at hx ⊢
  case dcr o => cases h; cases x <;> simp [flagsWritten, flag] at hx ⊢
  case dad | rlc | rrc | ral | rar | stc | cmc => cases h; cases x <;> simp [flagsWritten, flag] at hx ⊢
  all_goals cases h <;> simp [apply_ite State.flags]

/-- An instruction the table of R34 gives no flag keeps all five. -/
theorem flags_of_formEffect (h : formEffect fm s = .next t) (hfm : flagsWritten fm = []) : t.flags = s.flags := by
  have hflag : ∀ x, flag t.flags x = flag s.flags x := fun x => flag_of_formEffect h x (by simp [hfm])
  exact flags_ext (hflag .z) (hflag .s) (hflag .p) (hflag .cy) (hflag .ac)

/-- The register an INR or DCR of that operand writes: none for M. -/
def operandRegs : Operand8 → List Reg
  | .reg r => [r]
  | .m => []

/-- The registers an instruction may write. -/
def regsWritten : Form → List Reg
  | .movRR dst _ | .movRM dst | .mviR dst _ => [dst]
  | .inr o | .dcr o => operandRegs o
  | .lxi p _ | .inx p | .dcx p => regsOf p
  | .pop p => regsOf (stackPair p)
  | .lda _ | .ldax _ | .rlc | .rrc | .ral | .rar | .cma | .inPort _ | .popPsw => [.a]
  | .alu op _ | .aluImm op _ => if op = .cmp then [] else [.a]
  | .lhld _ | .dad _ | .xthl => regsOf .hl
  | .xchg => regsOf .de ++ regsOf .hl
  | _ => []

/-- The ALU operations write the accumulator, CMP apart. -/
theorem reg_aluEffect (op : AluOp) (v : Byte) (s : State) (q : Reg) (h : q ∉ if op = .cmp then [] else [Reg.a]) :
    (aluEffect op v s).reg q = s.reg q := by
  cases op
  case cmp => exact s.reg_setFlags _ q
  case add | adc | sub | sbb => exact (s.reg_setResult _ q).trans (if_neg (List.ne_of_not_mem_cons h))
  case ana | xra | ora => exact (State.reg_setFlags _ _ q).trans (s.reg_setReg_ne _ q _ (List.ne_of_not_mem_cons h))

/-- A register that an instruction does not write keeps its value. -/
theorem reg_of_formEffect (h : formEffect fm s = .next t) (q : Reg) (hq : q ∉ regsWritten fm) :
    t.reg q = s.reg q := by
  cases fm
  case movRR dst src | movRM dst | mviR dst imm =>
    cases h; exact State.reg_setReg_ne _ _ _ _ (List.ne_of_not_mem_cons hq)
  case inr o | dcr o =>
    cases h
    cases o with
    | reg r => exact State.reg_setReg_ne _ _ _ _ (List.ne_of_not_mem_cons hq)
    | m => rfl
  case lda addr | ldax p | rlc | rrc | ral | rar | cma | inPort port | popPsw =>
    cases h; simp [State.reg_setReg_ne _ _ _ _ (List.ne_of_not_mem_cons hq)]
  case lxi p imm | inx p | dcx p | pop p => cases h; simp [reg_setPair_of_not_mem _ _ _ _ hq]
  case lhld addr | dad p | xthl => cases h; simp [reg_setPair_of_not_mem _ .hl _ _ hq]
  case sphl => cases h; simp [reg_setPair_of_not_mem _ .sp _ _ hq]
  case xchg =>
    have hde : q ∉ regsOf .de := mt (List.mem_append_left _) hq
    have hhl : q ∉ regsOf .hl := mt (List.mem_append_right _) hq
    cases h; simp [reg_setPair_of_not_mem _ _ _ _ hde, reg_setPair_of_not_mem _ _ _ _ hhl]
  case alu op o | aluImm op imm => cases h; simp [reg_aluEffect _ _ _ _ hq]
  case ccc cnd target | rcc cnd => cases h; simp only [callIf_eq, returnIf_eq]; split <;> simp
  case ei | di => cases h; exact State.reg_congr _ _ rfl q
  all_goals cases h <;> simp

/-! ### Memory -/

/-- The store of an INR or DCR that writes back `v`: none for a register. -/
def storedOperand (o : Operand8) (v : Byte) (s : State) : State :=
  match o with
  | .reg _ => s
  | .m => s.setByte (s.pair .hl) v

/-- The stores of an instruction, as writes of bytes and words and as pushes (R69). -/
def stored (fm : Form) (s : State) : State :=
  match fm with
  | .movMR src => s.setByte (s.pair .hl) (s.reg src)
  | .mviM imm => s.setByte (s.pair .hl) imm
  | .inr o => storedOperand o (readOperand o s + 1) s
  | .dcr o => storedOperand o (readOperand o s - 1) s
  | .stax p => s.setByte (s.indexAddr p) (s.reg .a)
  | .sta addr => s.setByte addr (s.reg .a)
  | .shld addr => s.setWord addr (s.pair .hl)
  | .push p => s.push16 (s.pair (stackPair p))
  | .pushPsw => s.push16 s.psw
  | .call _ => s.push16 (s.pc + 3)
  | .ccc cnd _ => if condHolds cnd s.flags then s.push16 (s.pc + 3) else s
  | .rst _ => s.push16 (s.pc + 1)
  | .xthl => s.setWord s.sp (s.pair .hl)
  | .movRR _ _ | .movRM _ | .mviR _ _ | .lxi _ _ | .lda _ | .lhld _ | .ldax _ | .xchg | .sphl | .alu _ _ | .aluImm _ _
  | .inx _ | .dcx _ | .dad _ | .rlc | .rrc | .ral | .rar | .cma | .stc | .cmc | .jmp _ | .jcc _ _ | .ret | .rcc _
  | .pchl | .pop _ | .popPsw | .inPort _ | .outPort _ | .ei | .di | .hlt | .nop | .illegal _ => s

theorem mem_writeOperand (o : Operand8) (v : Byte) (s : State) :
    (writeOperand o v s).mem = (storedOperand o v s).mem := by
  cases o with
  | reg r => exact s.setReg_mem r v
  | m => rfl

/-- The memory after an instruction is that of its stores. -/
theorem mem_of_formEffect (h : formEffect fm s = .next t) : t.mem = (stored fm s).mem := by
  cases fm
  case inr o => cases h; exact mem_writeOperand o (readOperand o s + 1) s
  case dcr o => cases h; exact mem_writeOperand o (readOperand o s - 1) s
  case ccc cnd target => cases h; simp only [callIf_eq, stored]; split <;> rfl
  case movMR | mviM | stax | sta | shld | push | pushPsw | call | rst | xthl => cases h; rfl
  all_goals cases h <;> simp [stored, apply_ite State.mem]

theorem wf_storedOperand (o : Operand8) (v : Byte) (s : State) (h : Memory.wf s.mem = true) :
    Memory.wf (storedOperand o v s).mem = true := by
  cases o with
  | reg r => exact h
  | m => exact s.wf_setByte _ _ h

/-- The stores of an instruction keep the canonical form (R42). -/
theorem wf_stored (fm : Form) (s : State) (h : Memory.wf s.mem = true) : Memory.wf (stored fm s).mem = true := by
  cases fm
  case movMR | mviM | stax | sta => exact s.wf_setByte _ _ h
  case inr o | dcr o => exact wf_storedOperand o _ s h
  case shld | xthl => exact s.wf_setWord _ _ h
  case push | pushPsw | call | rst => exact s.wf_push16 _ h
  case ccc cnd target =>
    rw [stored]
    split
    · exact s.wf_push16 _ h
    · exact h
  all_goals exact h

theorem byteAt_setByte_of_not_mem (s : State) (a b : Addr) (v : Byte) (h : b ∉ [a]) :
    (s.setByte a v).byteAt b = s.byteAt b :=
  s.byteAt_setByte_ne a b v (List.ne_of_not_mem_cons h)

theorem byteAt_setWord_of_not_mem (s : State) (a b v : Addr) (h : b ∉ [a, a + 1]) :
    (s.setWord a v).byteAt b = s.byteAt b := by
  simp only [List.mem_cons, List.not_mem_nil, or_false, not_or] at h
  rw [State.byteAt_setWord, if_neg h.2, if_neg h.1]

theorem byteAt_push16_of_not_mem (s : State) (v b : Addr) (h : b ∉ pushed s) :
    (s.push16 v).byteAt b = s.byteAt b := by
  simp only [pushed, List.mem_cons, List.not_mem_nil, or_false, not_or] at h
  rw [State.byteAt_push16, if_neg h.2, if_neg h.1]

theorem byteAt_storedOperand (o : Operand8) (v : Byte) (s : State) (a : Addr) (h : a ∉ operandStores o s) :
    (storedOperand o v s).byteAt a = s.byteAt a := by
  cases o with
  | reg r => rfl
  | m => exact byteAt_setByte_of_not_mem s _ a v h

/-- An address an instruction does not store to reads as before its stores (R69). -/
theorem byteAt_stored (fm : Form) (s : State) (a : Addr) (h : a ∉ storesTo fm s) :
    (stored fm s).byteAt a = s.byteAt a := by
  cases fm
  case movMR | mviM | stax | sta => exact byteAt_setByte_of_not_mem s _ a _ h
  case inr o | dcr o => exact byteAt_storedOperand o _ s a h
  case shld | xthl => exact byteAt_setWord_of_not_mem s _ a _ h
  case push | pushPsw | call | rst => exact byteAt_push16_of_not_mem s _ a h
  case ccc cnd target =>
    rw [storesTo] at h
    rw [stored]
    by_cases hc : condHolds cnd s.flags = true
    · rw [if_pos hc] at h ⊢
      exact byteAt_push16_of_not_mem s _ a h
    · rw [if_neg hc]
  all_goals rfl

theorem byteAt_of_formEffect (h : formEffect fm s = .next t) (a : Addr) (ha : a ∉ storesTo fm s) :
    t.byteAt a = s.byteAt a :=
  (State.byteAt_congr (stored fm s) t (mem_of_formEffect h) a).trans (byteAt_stored fm s a ha)

/-- The frame of an instruction that touches neither IE nor a port. -/
theorem kept_of_formEffect (h : formEffect fm s = .next t) (hie : ieAfter fm s = s.ie := by rfl)
    (hio : ioAfter fm s = s.io := by rfl) : Kept s t (regsWritten fm) (storesTo fm s) :=
  ⟨reg_of_formEffect h, byteAt_of_formEffect h, (ie_of_formEffect h).trans hie, (io_of_formEffect h).trans hio⟩

end Frame

/-! ### The same for an instruction of a shape -/

section Shapes

variable {i : Instr} {fm : Form} {s t : State}

theorem exec_of_form (hi : i.form = fm) (h : formEffect fm s = .next t) : exec i s = .next t := by
  rw [exec_eq_formEffect, hi, h]

theorem formEffect_of_exec (h : exec i s = .next t) : formEffect i.form s = .next t :=
  (exec_eq_formEffect i s).symm.trans h

/-- An instruction that completes has a length, the number of its bytes (R90, R100). -/
theorem length_of_exec (h : exec i s = .next t) : i.length = some (encode i).length := by
  have hf := formEffect_of_exec h
  unfold Instr.length encode
  revert hf
  cases i.form
  case illegal op => exact fun hf => nomatch hf
  all_goals exact fun _ => rfl

theorem advancesByLength_of_exec (h : exec i s = .next t) (hi : transfers i.form = false) :
    AdvancesByLength i s t := by
  refine ⟨_, length_of_exec h, ?_⟩
  rw [pc_of_formEffect (formEffect_of_exec h) hi, BitVec.toNat_add, BitVec.toNat_ofNat, Nat.add_mod_mod]
  rfl

end Shapes

/-! ### The rules over all instructions (O20, O47 to O49, O52, O53) -/

theorem inv_of_step (s t : State) (hs : s.Inv) (h : step s = .next t) : t.Inv := by
  unfold State.Inv
  rw [mem_of_formEffect (formEffect_of_exec h)]
  exact wf_stored s.fetch.form s hs

/-- Settles O20: the memory after a step is that of the instruction's stores, which keep the canonical form. -/
theorem stepKeepsTheInvariant : Obligations.StepKeepsTheInvariant := by
  unfold Obligations.StepKeepsTheInvariant
  exact inv_of_step

/-- Settles O47: by the port record after each shape; IN leaves in A the answer it records, and neither stores. -/
theorem onlyInAndOutTouchPorts : Obligations.OnlyInAndOutTouchPorts := by
  unfold Obligations.OnlyInAndOutTouchPorts
  intro i s t h
  have hf := formEffect_of_exec h
  have hio := io_of_formEffect hf
  have hmem := mem_of_formEffect hf
  revert hf hio hmem
  cases i.form
  case inPort port =>
    intro hf hio hmem
    cases hf
    exact ⟨by simp, hmem⟩
  case outPort port => exact fun _ hio hmem => ⟨hio, hmem⟩
  all_goals exact fun _ hio _ => hio

/-- Settles O48: PC advances by the number of bytes, which is the length. -/
theorem pcAdvancesByTheLength : Obligations.PcAdvancesByTheLength := by
  unfold Obligations.PcAdvancesByTheLength
  exact fun i s t => advancesByLength_of_exec

/-- Settles O49: the flags the table of R34 does not give a shape. -/
theorem flagsOutsideTheTableAreKept : Obligations.FlagsOutsideTheTableAreKept := by
  unfold Obligations.FlagsOutsideTheTableAreKept
  exact fun i s t h => flag_of_formEffect (formEffect_of_exec h)

/-- Settles O52: SP after each shape. -/
theorem spWrittenByTheListedInstructions : Obligations.SpWrittenByTheListedInstructions := by
  unfold Obligations.SpWrittenByTheListedInstructions
  exact fun i s t h => sp_of_formEffect (formEffect_of_exec h)

/-- Settles O53: the bytes the stores of a shape leave. -/
theorem memoryOutsideTheListedStoresIsKept : Obligations.MemoryOutsideTheListedStoresIsKept := by
  unfold Obligations.MemoryOutsideTheListedStoresIsKept
  exact fun i s t h => byteAt_of_formEffect (formEffect_of_exec h)

end Sys2Proof.Machine
end

section
/-! PROOFS. What an instruction reads of IE and of Auxiliary-Carry: nothing, PUSH PSW apart (spec 10_state.md R34, R36).
Replacing the flags and IE commutes with every operation on the other parts of the state. -/

namespace Sys2Proof.Machine

open Sys2Proof Sys2Proof.Claims

/-- The state with its flags and IE replaced. -/
def State.withStatus (s : State) (f : Flags) (x : Bool) : State := { s with flags := f, ie := x }

section Commutes

variable (s : State) (f : Flags) (x : Bool)

@[simp] theorem reg_withStatus (r : Reg) : (s.withStatus f x).reg r = s.reg r := by cases r <;> rfl

@[simp] theorem pair_withStatus (p : Pair) : (s.withStatus f x).pair p = s.pair p := by cases p <;> rfl

@[simp] theorem sp_withStatus : (s.withStatus f x).sp = s.sp := rfl

@[simp] theorem pc_withStatus : (s.withStatus f x).pc = s.pc := rfl

@[simp] theorem flags_withStatus : (s.withStatus f x).flags = f := rfl

@[simp] theorem ie_withStatus : (s.withStatus f x).ie = x := rfl

@[simp] theorem indexAddr_withStatus (p : IndexPair) : (s.withStatus f x).indexAddr p = s.indexAddr p :=
  pair_withStatus s f x (indexPair p)

@[simp] theorem byteAt_withStatus (a : Addr) : (s.withStatus f x).byteAt a = s.byteAt a := rfl

@[simp] theorem wordAt_withStatus (a : Addr) : (s.withStatus f x).wordAt a = s.wordAt a := rfl

@[simp] theorem top16_withStatus : (s.withStatus f x).top16 = s.top16 := rfl

@[simp] theorem portRead_withStatus (port : Byte) : (s.withStatus f x).portRead port = s.portRead port := rfl

@[simp] theorem readOperand_withStatus (o : Operand8) : readOperand o (s.withStatus f x) = readOperand o s := by
  cases o with
  | reg r => exact reg_withStatus s f x r
  | m => rfl

@[simp] theorem setReg_withStatus (r : Reg) (v : Byte) :
    (s.withStatus f x).setReg r v = (s.setReg r v).withStatus f x := by cases r <;> rfl

@[simp] theorem setPair_withStatus (p : Pair) (v : Addr) :
    (s.withStatus f x).setPair p v = (s.setPair p v).withStatus f x := by cases p <;> rfl

@[simp] theorem setByte_withStatus (a : Addr) (v : Byte) :
    (s.withStatus f x).setByte a v = (s.setByte a v).withStatus f x := rfl

@[simp] theorem setWord_withStatus (a v : Addr) :
    (s.withStatus f x).setWord a v = (s.setWord a v).withStatus f x := rfl

@[simp] theorem setPc_withStatus (v : Addr) : (s.withStatus f x).setPc v = (s.setPc v).withStatus f x := rfl

@[simp] theorem advance_withStatus (n : Nat) : (s.withStatus f x).advance n = (s.advance n).withStatus f x := rfl

@[simp] theorem push16_withStatus (v : Addr) : (s.withStatus f x).push16 v = (s.push16 v).withStatus f x := rfl

@[simp] theorem pop16_withStatus : (s.withStatus f x).pop16 = s.pop16.withStatus f x := rfl

@[simp] theorem recordInput_withStatus (p v : Byte) :
    (s.withStatus f x).recordInput p v = (s.recordInput p v).withStatus f x := rfl

@[simp] theorem portWrite_withStatus (p v : Byte) :
    (s.withStatus f x).portWrite p v = (s.portWrite p v).withStatus f x := rfl

@[simp] theorem writeOperand_withStatus (o : Operand8) (v : Byte) :
    writeOperand o v (s.withStatus f x) = (writeOperand o v s).withStatus f x := by
  cases o with
  | reg r => exact setReg_withStatus s f x r v
  | m => rfl

@[simp] theorem withStatus_withStatus (g : Flags) (y : Bool) :
    (s.withStatus g y).withStatus f x = s.withStatus f x := rfl

theorem setFlags_eq_withStatus (g : Flags) : s.setFlags g = s.withStatus g s.ie := rfl

theorem setCarry_eq_withStatus (c : Bool) : s.setCarry c = s.withStatus { s.flags with cy := c } s.ie := rfl

/-- An ALU operation reads no flag but Carry, and writes all five. -/
theorem aluEffect_withStatus (op : AluOp) (v : Byte) (hcy : f.cy = s.flags.cy) :
    aluEffect op v (s.withStatus f x) = (aluEffect op v s).withStatus (aluEffect op v s).flags x := by
  obtain ⟨z, sg, p, cy, ac⟩ := f
  cases hcy
  cases op <;> rfl

end Commutes

/-- No instruction but EI and DI writes or reads IE: replacing it before is replacing it after (R36). -/
theorem formEffect_withIe {fm : Form} {s t : State} (h : formEffect fm s = .next t) (hei : fm ≠ .ei)
    (hdi : fm ≠ .di) (x : Bool) : formEffect fm (s.withStatus s.flags x) = .next (t.withStatus t.flags x) := by
  cases fm
  case ei => exact absurd rfl hei
  case di => exact absurd rfl hdi
  case alu op o | aluImm op imm => cases h; simp [formEffect, aluEffect_withStatus]
  case jcc cnd target | ccc cnd target | rcc cnd =>
    cases h; cases hc : condHolds cnd s.flags <;> simp [formEffect, hc]
  case pushPsw => cases h; simp [formEffect, State.psw]
  all_goals cases h <;> simp [formEffect, setFlags_eq_withStatus, setCarry_eq_withStatus]

theorem form_eq_ei_iff (i : Instr) : i.form = .ei ↔ i = .ei := by cases i <;> simp [Instr.form]

theorem form_eq_di_iff (i : Instr) : i.form = .di ↔ i = .di := by cases i <;> simp [Instr.form]

theorem form_eq_pushPsw_iff (i : Instr) : i.form = .pushPsw ↔ i = .pushPsw := by cases i <;> simp [Instr.form]

theorem ieAfter_of_ne {fm : Form} (s : State) (hei : fm ≠ .ei) (hdi : fm ≠ .di) : ieAfter fm s = s.ie := by
  cases fm
  case ei => exact absurd rfl hei
  case di => exact absurd rfl hdi
  all_goals rfl

/-- Settles O50: IE after each shape, and replacing it commutes with every shape but EI and DI. -/
theorem interruptEnableWrittenByEiAndDiOnly : Obligations.InterruptEnableWrittenByEiAndDiOnly := by
  unfold Obligations.InterruptEnableWrittenByEiAndDiOnly
  intro i s hei hdi t h
  have hf := formEffect_of_exec h
  have hei : i.form ≠ .ei := mt (form_eq_ei_iff i).mp hei
  have hdi : i.form ≠ .di := mt (form_eq_di_iff i).mp hdi
  exact ⟨(ie_of_formEffect hf).trans (ieAfter_of_ne s hei hdi),
    fun x => exec_of_form rfl (formEffect_withIe hf hei hdi x)⟩

/-! ### Auxiliary-Carry (R34) -/

theorem withAc_eq_withStatus (s : State) (x : Bool) : withAc s x = s.withStatus { s.flags with ac := x } s.ie := rfl

@[simp] theorem condHolds_withAc (cnd : Cond) (f : Flags) (x : Bool) :
    condHolds cnd { f with ac := x } = condHolds cnd f := by cases cnd <;> rfl

@[simp] theorem inrFlags_withAc (v : Byte) (f : Flags) (x : Bool) :
    inrFlags v { f with ac := x } = inrFlags v f := rfl

@[simp] theorem dcrFlags_withAc (v : Byte) (f : Flags) (x : Bool) :
    dcrFlags v { f with ac := x } = dcrFlags v f := rfl

/-- Every shape but PUSH PSW gives the same answer for both values of Auxiliary-Carry, Auxiliary-Carry apart. -/
theorem formEffect_withAc (fm : Form) (s : State) (x : Bool) (h : fm ≠ .pushPsw) :
    SameButAc (formEffect fm (withAc s x)) (formEffect fm s) := by
  rw [withAc_eq_withStatus]
  cases fm
  case pushPsw => exact absurd rfl h
  case alu op o | aluImm op imm => simp [formEffect, aluEffect_withStatus, SameButAc, withAc_eq_withStatus]
  case jcc cnd target | ccc cnd target | rcc cnd =>
    cases hc : condHolds cnd s.flags <;> simp [formEffect, hc, SameButAc, withAc_eq_withStatus]
  case ei | di | illegal => rfl
  all_goals simp [formEffect, SameButAc, withAc_eq_withStatus, setFlags_eq_withStatus, setCarry_eq_withStatus]

/-- Settles O51: each shape but that of PUSH PSW. -/
theorem auxiliaryCarryIsReadByPushPswOnly : Obligations.AuxiliaryCarryIsReadByPushPswOnly := by
  unfold Obligations.AuxiliaryCarryIsReadByPushPswOnly
  intro i s x hi
  rw [exec_eq_formEffect, exec_eq_formEffect]
  exact formEffect_withAc i.form s x (mt (form_eq_pushPsw_iff i).mp hi)

end Sys2Proof.Machine
end

section
/-! PROOFS. The cost of a step, the run loop and the moves of the host (spec 40_step_and_run.md, 60_exceptions.md R292,
70_reset_and_hazards.md section 2). -/

namespace Sys2Proof.Machine

open Sys2Proof Sys2Proof.Claims

/-! ### The cycle table (R124 to R126) -/

theorem cyclesOfForm_range (fm : Form) (f : Flags) (c : Nat) (h : cyclesOfForm fm f = some c) :
    4 ≤ c ∧ c ≤ 18 := by
  cases fm
  case illegal op => cases h
  case alu op o | inr o | dcr o => cases h; cases o <;> simp [operandCycles]
  case jcc cnd target | ccc cnd target | rcc cnd => cases h; split <;> decide
  all_goals (cases h; decide)

/-- The cycles depend on a flag for the conditional calls and returns only (R124; Jcc costs the same both ways, C8). -/
theorem cyclesOfForm_flags (fm : Form) (f g : Flags) (hccc : ∀ cnd target, fm ≠ .ccc cnd target)
    (hrcc : ∀ cnd, fm ≠ .rcc cnd) : cyclesOfForm fm f = cyclesOfForm fm g := by
  cases fm
  case ccc cnd target => exact absurd rfl (hccc cnd target)
  case rcc cnd => exact absurd rfl (hrcc cnd)
  case jcc cnd target => simp only [cyclesOfForm, ite_self]
  all_goals rfl

theorem cycles_of_form {i : Instr} {fm : Form} (h : i.form = fm) (f : Flags) : cycles i f = cyclesOfForm fm f := by
  rw [cycles, h]

theorem cyclesOfForm_eq_none_iff (fm : Form) (f : Flags) : cyclesOfForm fm f = none ↔ ∃ op, fm = .illegal op := by
  cases fm <;> simp [cyclesOfForm]

/-- There is no cost exactly where the byte at PC has no handler (R126). -/
theorem cost_eq_none_iff (s : State) : cost s = none ↔ s.byteAt s.pc ∈ illegalBytes := by
  rw [cost, cycles, cyclesOfForm_eq_none_iff]
  simp only [Instr.form_eq_illegal_iff, fetch_eq_noInstruction_iff, exists_and_left, exists_eq, and_true]

theorem exists_cost_of_not_mem (s : State) (h : s.byteAt s.pc ∉ illegalBytes) : ∃ c, cost s = some c :=
  Option.ne_none_iff_exists'.mp (mt (cost_eq_none_iff s).mp h)

theorem cost_range {s : State} {c : Nat} (h : cost s = some c) : 4 ≤ c ∧ c ≤ 18 :=
  cyclesOfForm_range s.fetch.form s.flags c h

/-- A step that has a cost completes. -/
theorem step_of_cost {s : State} {c : Nat} (h : cost s = some c) : ∃ t, step s = .next t :=
  step_of_not_mem_illegalBytes s fun hmem => by simp [(cost_eq_none_iff s).mpr hmem] at h

theorem cost_of_step {s t : State} (h : step s = .next t) : ∃ c, cost s = some c :=
  exists_cost_of_not_mem s fun hmem => by simp [step_of_mem_illegalBytes s hmem] at h

/-- HLT is fetched exactly where its byte stands at PC. -/
theorem fetch_eq_hlt_iff (s : State) : s.fetch = .hlt ↔ s.byteAt s.pc = 0x76 := by
  rw [State.fetch, decodeOp_eq_selected]
  constructor
  · intro h
    have hbytes := encode_selected (s.byteAt s.pc) (s.byteAt (s.pc + 1))
      (joinBytes (s.byteAt (s.pc + 1)) (s.byteAt (s.pc + 2)))
    rw [h] at hbytes
    exact (List.cons.inj hbytes).1.symm
  · intro h
    rw [h]
    rfl

/-! ### The report of a step (R121) -/

theorem stepReport_of_next {s t : State} {c : Nat} (h : step s = .next t) (hc : cost s = some c) :
    stepReport s = if s.fetch = .hlt then .halt c t else .normal c t := by
  simp only [stepReport, h, hc, Option.getD_some]

theorem stepReport_of_mem_illegalBytes (s : State) (h : s.byteAt s.pc ∈ illegalBytes) :
    stepReport s = .fault (s.byteAt s.pc) s.pc := by
  simp only [stepReport, step_of_mem_illegalBytes s h]

theorem cost_eq_none_iff_report (s : State) : cost s = none ↔ stepReport s = .fault (s.byteAt s.pc) s.pc := by
  rw [cost_eq_none_iff]
  refine ⟨stepReport_of_mem_illegalBytes s, fun hr => ?_⟩
  by_contra hmem
  obtain ⟨t, ht⟩ := step_of_not_mem_illegalBytes s hmem
  obtain h | h := stepReport_of_step s t ht <;> cases hr.symm.trans h

/-- Settles O56: the report at each kind of byte, and the cycle table shape by shape. -/
theorem stepReportsItsCost : Obligations.StepReportsItsCost := by
  unfold Obligations.StepReportsItsCost
  refine fun s => ⟨fun t ht => ?_, cost_eq_none_iff_report s, fun hhlt => ?_, fun i dst imm h => cycles_of_form h _,
    fun i r h => cycles_of_form h _, fun i cnd target h => cycles_of_form h _, fun i cnd h => cycles_of_form h _,
    fun i f hccc hrcc => cyclesOfForm_flags i.form f s.flags hccc hrcc⟩
  · obtain ⟨c, hc⟩ := cost_of_step ht
    obtain ⟨hlo, hhi⟩ := cost_range hc
    refine ⟨c, hc, hlo, hhi, ?_⟩
    rw [stepReport_of_next ht hc]
    exact if_congr (fetch_eq_hlt_iff s) rfl rfl
  · rw [cost, (fetch_eq_hlt_iff s).mpr hhlt]
    rfl

/-! ### One turn of the run loop (R130) -/

/-- What the loop does at a state with a running total, under a budget. -/
inductive LoopTurn (budget total : Nat) (s : State) : Prop where
  | faults (hc : cost s = none)
  | stops (c : Nat) (hc : cost s = some c) (hb : budget < total + c)
  | halts (c : Nat) (t : State) (hc : cost s = some c) (hb : total + c ≤ budget) (ht : step s = .next t)
      (hhlt : s.fetch = .hlt)
  | goesOn (c : Nat) (t : State) (hc : cost s = some c) (hb : total + c ≤ budget) (ht : step s = .next t)
      (hhlt : s.fetch ≠ .hlt)

theorem loopTurn (budget total : Nat) (s : State) : LoopTurn budget total s := by
  rcases hc : cost s with _ | c
  · exact .faults hc
  · obtain ⟨t, ht⟩ := step_of_cost hc
    rcases Nat.lt_or_ge budget (total + c) with hb | hb
    · exact .stops c hc hb
    · by_cases hhlt : s.fetch = .hlt
      · exact .halts c t hc hb ht hhlt
      · exact .goesOn c t hc hb ht hhlt

section Turn

variable {budget total c : Nat} {s t : State} (fuel : Nat)

theorem runLoop_of_faults (hc : cost s = none) : runLoop budgetPolicy (some budget) (fuel + 1) total s =
    some { reason := .faulted (s.byteAt s.pc) s.pc, total := total, state := s } := by
  simp only [runLoop, hc]

theorem runLoop_of_stops (hc : cost s = some c) (hb : budget < total + c) :
    runLoop budgetPolicy (some budget) (fuel + 1) total s =
      some { reason := .completed, total := total, state := s } := by
  simp [runLoop, hc, budgetPolicy, stopsBefore, hb]

theorem runLoop_of_halts (hc : cost s = some c) (hb : total + c ≤ budget) (ht : step s = .next t)
    (hhlt : s.fetch = .hlt) : runLoop budgetPolicy (some budget) (fuel + 1) total s =
      some { reason := .halted, total := total + c, state := t } := by
  simp [runLoop, hc, budgetPolicy, stopsBefore, Nat.not_lt.mpr hb, stepReport_of_next ht hc, hhlt]

theorem runLoop_of_goesOn (hc : cost s = some c) (hb : total + c ≤ budget) (ht : step s = .next t)
    (hhlt : s.fetch ≠ .hlt) : runLoop budgetPolicy (some budget) (fuel + 1) total s =
      runLoop budgetPolicy (some budget) fuel (total + c) t := by
  simp [runLoop, hc, budgetPolicy, stopsBefore, stopsAfter, Nat.not_lt.mpr hb, stepReport_of_next ht hc, hhlt]

end Turn

/-! ### Whole runs (R130 to R134) -/

/-- With more fuel than the budget leaves cycles the loop ends, within the budget: every turn costs a cycle. -/
theorem runLoop_ends (budget fuel total : Nat) (s : State) (hle : total ≤ budget) (hfuel : budget < total + fuel) :
    ∃ r, runLoop budgetPolicy (some budget) fuel total s = some r ∧ r.total ≤ budget := by
  induction fuel generalizing total s with
  | zero => omega
  | succ fuel ih =>
    cases loopTurn budget total s with
    | faults hc => exact ⟨_, runLoop_of_faults fuel hc, hle⟩
    | stops c hc hb => exact ⟨_, runLoop_of_stops fuel hc hb, hle⟩
    | halts c t hc hb ht hhlt => exact ⟨_, runLoop_of_halts fuel hc hb ht hhlt, hb⟩
    | goesOn c t hc hb ht hhlt =>
      obtain ⟨hlo, -⟩ := cost_range hc
      rw [runLoop_of_goesOn fuel hc hb ht hhlt]
      exact ih (total + c) t hb (by omega)

theorem run_ends (budget : Nat) (s : State) : ∃ r, run budget s = some r ∧ r.total ≤ budget :=
  runLoop_ends budget (budget + 1) 0 s (Nat.zero_le _) (by omega)

/-- Settles O57: the loop has fuel for more turns than the budget allows. -/
theorem runReturnsWithinTheBudget : Obligations.RunReturnsWithinTheBudget := by
  unfold Obligations.RunReturnsWithinTheBudget
  exact run_ends

/-- A loop that ends within its fuel ends the same with more. -/
theorem runLoop_fuel_add (budget fuel k total : Nat) (s : State) (r : RunResult)
    (h : runLoop budgetPolicy (some budget) fuel total s = some r) :
    runLoop budgetPolicy (some budget) (fuel + k) total s = some r := by
  induction fuel generalizing total s with
  | zero => cases h
  | succ fuel ih =>
    rw [Nat.succ_add]
    cases loopTurn budget total s with
    | faults hc => rwa [runLoop_of_faults _ hc] at h ⊢
    | stops c hc hb => rwa [runLoop_of_stops _ hc hb] at h ⊢
    | halts c t hc hb ht hhlt => rwa [runLoop_of_halts _ hc hb ht hhlt] at h ⊢
    | goesOn c t hc hb ht hhlt =>
      rw [runLoop_of_goesOn _ hc hb ht hhlt] at h ⊢
      exact ih (total + c) t h

/-- A result with `d` more cycles in its total. -/
def RunResult.addTotal (r : RunResult) (d : Nat) : RunResult := { r with total := r.total + d }

/-- Budget and running total count alike: `d` more of both is `d` more in the total at the end. -/
theorem runLoop_shift (budget fuel total d : Nat) (s : State) (r : RunResult)
    (h : runLoop budgetPolicy (some budget) fuel total s = some r) :
    runLoop budgetPolicy (some (budget + d)) fuel (total + d) s = some (r.addTotal d) := by
  induction fuel generalizing total s with
  | zero => cases h
  | succ fuel ih =>
    have hswap : ∀ c, total + d + c = total + c + d := fun c => Nat.add_right_comm total d c
    cases loopTurn budget total s with
    | faults hc =>
      rw [runLoop_of_faults _ hc] at h ⊢
      cases h; rfl
    | stops c hc hb =>
      rw [runLoop_of_stops _ hc hb] at h
      rw [runLoop_of_stops _ hc (by omega)]
      cases h; rfl
    | halts c t hc hb ht hhlt =>
      rw [runLoop_of_halts _ hc hb ht hhlt] at h
      rw [runLoop_of_halts _ hc (by omega) ht hhlt, hswap]
      cases h; rfl
    | goesOn c t hc hb ht hhlt =>
      rw [runLoop_of_goesOn _ hc hb ht hhlt] at h
      rw [runLoop_of_goesOn _ hc (by omega) ht hhlt, hswap]
      exact ih (total + c) t h

/-- A loop that ended Completed goes on under a larger budget from where it stopped. -/
theorem runLoop_continue (b budget fuel fuel' total : Nat) (s : State) (r q : RunResult) (hb : b ≤ budget)
    (h : runLoop budgetPolicy (some b) fuel total s = some r) (hr : r.reason = .completed)
    (hq : runLoop budgetPolicy (some budget) fuel' r.total r.state = some q) :
    runLoop budgetPolicy (some budget) (fuel' + fuel) total s = some q := by
  induction fuel generalizing total s with
  | zero => cases h
  | succ fuel ih =>
    cases loopTurn b total s with
    | faults hc => rw [runLoop_of_faults _ hc] at h; cases h; cases hr
    | stops c hc hb => rw [runLoop_of_stops _ hc hb] at h; cases h; exact runLoop_fuel_add _ _ _ _ _ _ hq
    | halts c t hc hb ht hhlt => rw [runLoop_of_halts _ hc hb ht hhlt] at h; cases h; cases hr
    | goesOn c t hc hbc ht hhlt =>
      rw [runLoop_of_goesOn _ hc hbc ht hhlt] at h
      rw [← Nat.add_assoc, runLoop_of_goesOn _ hc (by omega) ht hhlt]
      exact ih (total + c) t h

/-- A run's result does not depend on the fuel it is given. -/
theorem run_eq_of_runLoop (budget fuel : Nat) (s : State) (q : RunResult)
    (h : runLoop budgetPolicy (some budget) fuel 0 s = some q) : run budget s = some q := by
  obtain ⟨r, hr, -⟩ := run_ends budget s
  have h1 := runLoop_fuel_add budget fuel (budget + 1) 0 s q h
  have h2 := runLoop_fuel_add budget (budget + 1) fuel 0 s r hr
  rw [Nat.add_comm, h1] at h2
  exact hr.trans h2.symm

/-- Settles O58: the second slice, shifted by the first one's total, continues the first. -/
theorem runSlicesAddUp : Obligations.RunSlicesAddUp := by
  unfold Obligations.RunSlicesAddUp
  intro b1 b2 s r hrun hr
  have hle : r.total ≤ b1 := by
    obtain ⟨r', hr', hle⟩ := run_ends b1 s
    cases hrun.symm.trans hr'
    exact hle
  obtain ⟨q, hq, -⟩ := run_ends (b1 - r.total + b2) r.state
  refine ⟨q, hq, ?_⟩
  have hshift := runLoop_shift (b1 - r.total + b2) _ 0 r.total r.state q hq
  rw [show b1 - r.total + b2 + r.total = b1 + b2 by omega, Nat.zero_add] at hshift
  have hwhole := run_eq_of_runLoop _ _ _ _ (runLoop_continue b1 (b1 + b2) _ _ 0 s r _ (by omega) hrun hr hshift)
  rw [hwhole, RunResult.addTotal, Nat.add_comm]

/-- Settles O59: the first turn of the loop; every instruction costs more than a budget of 0. -/
theorem runAtAFaultOrWithNoBudget : Obligations.RunAtAFaultOrWithNoBudget := by
  unfold Obligations.RunAtAFaultOrWithNoBudget
  refine ⟨fun budget s h => runLoop_of_faults budget ((cost_eq_none_iff s).mpr h), fun s h => ?_⟩
  obtain ⟨c, hc⟩ := exists_cost_of_not_mem s h
  obtain ⟨hlo, -⟩ := cost_range hc
  exact runLoop_of_stops 0 hc (by omega)

/-! ### Loading an image (R312, R313) -/

theorem copyImage_eq_placeBytes (image : List Byte) (a : Addr) (s : State) :
    copyImage image a s = placeBytes s a image := by
  induction image generalizing a s with
  | nil => rfl
  | cons v image ih => exact ih (a + 1) (s.setByte a v)

/-- Placing bytes changes memory only. -/
theorem placeBytes_keeps (s : State) (a : Addr) (l : List Byte) :
    (placeBytes s a l).regs = s.regs ∧ (placeBytes s a l).pc = s.pc ∧ (placeBytes s a l).sp = s.sp ∧
      (placeBytes s a l).flags = s.flags ∧ (placeBytes s a l).ie = s.ie ∧ (placeBytes s a l).io = s.io := by
  induction l generalizing s a with
  | nil => exact ⟨rfl, rfl, rfl, rfl, rfl, rfl⟩
  | cons v l ih => exact ih (s.setByte a v) (a + 1)

theorem byteAt_of_bytesAt (s : State) (a : Addr) (l : List Byte) (h : BytesAt s a l) (k : Nat) (hk : k < l.length) :
    s.byteAt (a + BitVec.ofNat 16 k) = l[k] := by
  induction l generalizing a k with
  | nil => exact absurd hk (Nat.not_lt_zero k)
  | cons v l ih =>
    obtain ⟨hv, hl⟩ := h
    cases k with
    | zero => simpa using hv
    | succ k =>
      rw [show a + BitVec.ofNat 16 (k + 1) = a + 1 + BitVec.ofNat 16 k by bv_omega]
      exact ih (a + 1) hl k (Nat.lt_of_succ_lt_succ hk)

/-- An address outside the image is none of those it is copied to. -/
theorem addr_ne_of_outside (offset a : Addr) (n k : Nat) (hn : offset.toNat + n ≤ 65536) (hk : k < n)
    (ha : a.toNat < offset.toNat ∨ offset.toNat + n ≤ a.toNat) : a ≠ offset + BitVec.ofNat 16 k := by
  rintro rfl
  rw [BitVec.toNat_add, BitVec.toNat_ofNat] at ha
  omega

theorem loadImage_of_fits (image : List Byte) (offset : Addr) (s : State)
    (h : offset.toNat + image.length ≤ 65536) : loadImage image offset s = .ok (placeBytes s offset image) :=
  (if_neg (Nat.not_lt.mpr h)).trans (congrArg LoadResult.ok (copyImage_eq_placeBytes image offset s))

theorem loadImage_of_too_large (image : List Byte) (offset : Addr) (s : State)
    (h : 65536 < offset.toNat + image.length) : loadImage image offset s = .imageTooLargeForAddressSpace := if_pos h

/-- Settles O60: copying is placing bytes in a row, which stand where they were placed and leave the rest. -/
theorem loadImageCopiesOrRefuses : Obligations.LoadImageCopiesOrRefuses := by
  unfold Obligations.LoadImageCopiesOrRefuses
  refine ⟨fun image offset s hfits => ?_, fun image offset s hlong => ?_⟩
  · have hbytes := bytesAt_placeBytes s offset image (by omega)
    refine ⟨placeBytes s offset image, loadImage_of_fits image offset s hfits,
      byteAt_of_bytesAt _ offset image hbytes, fun a ha => ?_, placeBytes_keeps s offset image⟩
    exact byteAt_placeBytes_of_ne s offset a image fun k hk => addr_ne_of_outside offset a _ k hfits hk ha
  · have hload := loadImage_of_too_large image offset s hlong
    exact ⟨hload, by rw [applyMove, hload]⟩

/-! ### The moves of the host keep the invariant (O21) -/

theorem inv_of_runLoop (budget fuel total : Nat) (s : State) (r : RunResult) (hs : s.Inv)
    (h : runLoop budgetPolicy (some budget) fuel total s = some r) : r.state.Inv := by
  induction fuel generalizing total s with
  | zero => cases h
  | succ fuel ih =>
    cases loopTurn budget total s with
    | faults hc => rw [runLoop_of_faults _ hc] at h; cases h; exact hs
    | stops c hc hb => rw [runLoop_of_stops _ hc hb] at h; cases h; exact hs
    | halts c t hc hb ht hhlt => rw [runLoop_of_halts _ hc hb ht hhlt] at h; cases h; exact inv_of_step s t hs ht
    | goesOn c t hc hb ht hhlt =>
      rw [runLoop_of_goesOn _ hc hb ht hhlt] at h
      exact ih (total + c) t (inv_of_step s t hs ht) h

theorem inv_create : create.Inv := Memory.wf_nil

/-- Settles O19: the created memory is empty. -/
theorem createdStateMeetsTheInvariant : Obligations.CreatedStateMeetsTheInvariant := by
  unfold Obligations.CreatedStateMeetsTheInvariant
  exact inv_create

/-- Settles O21: move by move; a run is steps, and every other move that stores does so byte by byte. -/
theorem hostMovesKeepTheInvariant : Obligations.HostMovesKeepTheInvariant := by
  unfold Obligations.HostMovesKeepTheInvariant
  intro m s hs
  cases m with
  | create => exact inv_create
  | step =>
    rw [applyMove]
    cases ht : step s with
    | next t => exact inv_of_step s t hs ht
    | fault f => exact hs
    | refused r => exact hs
  | run budget =>
    rw [applyMove]
    cases hr : run budget s with
    | some r => exact inv_of_runLoop _ _ _ s r hs hr
    | none => exact hs
  | raise n => exact wf_raise n s hs
  | loadImage image offset =>
    rw [applyMove]
    rcases Nat.lt_or_ge 65536 (offset.toNat + image.length) with hlong | hfits
    · rw [loadImage_of_too_large image offset s hlong]
      exact hs
    · rw [loadImage_of_fits image offset s hfits, ← copyImage_eq_placeBytes]
      exact wf_copyImage image offset s hs
  | patchMemory a v => exact s.wf_setByte a v hs

end Sys2Proof.Machine
end

section
/-! PROOFS. Words, the stack, conditions and the PSW byte (spec 20_memory.md, 10_state.md, 30_encoding.md section 2). -/

namespace Sys2Proof.Machine

open Sys2Proof Sys2Proof.Claims

theorem byteAt_setWord_low (s : State) (a v : Addr) : (s.setWord a v).byteAt a = lowByte v := by
  rw [State.byteAt_setWord, if_neg (addr_succ_ne a).symm, if_pos rfl]

theorem byteAt_setWord_high (s : State) (a v : Addr) : (s.setWord a v).byteAt (a + 1) = highByte v := by
  rw [State.byteAt_setWord, if_pos rfl]

theorem byteAt_setWord_ne (s : State) (a v b : Addr) (ha : b ≠ a) (hb : b ≠ a + 1) :
    (s.setWord a v).byteAt b = s.byteAt b := by
  rw [State.byteAt_setWord, if_neg hb, if_neg ha]

/-- Settles O12: a word is its two bytes joined, and a two-byte write read back byte by byte. -/
theorem wordsAreLittleEndian : Obligations.WordsAreLittleEndian := by
  unfold Obligations.WordsAreLittleEndian
  intro s a v
  refine ⟨?_, ?_, ?_, s.wordAt_setWord a v, byteAt_setWord_ne s a v⟩
  · rw [State.wordAt, joinBytes_toNat_high_first, Nat.add_comm]
  · rw [byteAt_setWord_low, lowByte_toNat]
  · rw [byteAt_setWord_high, highByte_toNat]

theorem byteAt_push16_low (s : State) (v : Addr) : (s.push16 v).byteAt (s.sp - 2) = lowByte v := by
  rw [State.byteAt_push16, if_pos rfl]

theorem byteAt_push16_high (s : State) (v : Addr) : (s.push16 v).byteAt (s.sp - 1) = highByte v := by
  rw [State.byteAt_push16, if_neg (by bv_omega), if_pos rfl]

/-- Settles O13: the two bytes a push stores, and the field laws of `push16`. -/
theorem pushStoresHighByteAbove : Obligations.PushStoresHighByteAbove := by
  unfold Obligations.PushStoresHighByteAbove
  intro s v
  refine ⟨?_, ?_, s.push16_sp v, fun a => byteAt_push16_of_not_mem s v a, s.push16_regs v, s.push16_pc v,
    s.push16_flags v, s.push16_ie v, s.push16_io v⟩
  · rw [byteAt_push16_high, highByte_toNat]
  · rw [byteAt_push16_low, lowByte_toNat]

theorem top16_toNat (s : State) : s.top16.toNat = 256 * (s.byteAt (s.sp + 1)).toNat + (s.byteAt s.sp).toNat :=
  joinBytes_toNat_high_first (s.byteAt s.sp) (s.byteAt (s.sp + 1))

/-- A pop after a push restores SP, at every SP (R67). -/
theorem pop16_push16_sp (s : State) (v : Addr) : (s.push16 v).pop16.sp = s.sp := by
  rw [State.pop16_sp, State.push16_sp, BitVec.sub_add_cancel]

/-- Settles O14: the field laws of `pop16`, and what it reads after a push. -/
theorem popAfterPushRoundTrip : Obligations.PopAfterPushRoundTrip := by
  unfold Obligations.PopAfterPushRoundTrip
  exact ⟨fun s => ⟨top16_toNat s, s.pop16_sp, s.pop16_mem, s.pop16_regs, s.pop16_pc, s.pop16_flags, s.pop16_ie,
    s.pop16_io⟩, fun s x => ⟨s.top16_push16 x, pop16_push16_sp s x⟩⟩

/-- Settles O16: four conditions are a flag and four its negation; the codes are in the order of R97. -/
theorem conditionsTestOneFlag : Obligations.ConditionsTestOneFlag := by
  unfold Obligations.ConditionsTestOneFlag
  intro f
  have negated (b : Bool) : (!b) = true ↔ b = false := by simp
  exact ⟨negated f.z, Iff.rfl, negated f.cy, Iff.rfl, negated f.p, Iff.rfl, negated f.s, Iff.rfl, rfl⟩

/-- The bits of the PSW flag byte, from bit 7 to bit 0 (R35, D7). -/
theorem packFlags_bits (f : Flags) : (packFlags f).getLsbD 7 = f.s ∧ (packFlags f).getLsbD 6 = f.z ∧
    (packFlags f).getLsbD 5 = false ∧ (packFlags f).getLsbD 4 = f.ac ∧ (packFlags f).getLsbD 3 = false ∧
    (packFlags f).getLsbD 2 = f.p ∧ (packFlags f).getLsbD 1 = true ∧ (packFlags f).getLsbD 0 = f.cy := by
  obtain ⟨z, s, p, cy, ac⟩ := f
  revert z s p cy ac
  decide

theorem unpackFlags_packFlags (f : Flags) : unpackFlags (packFlags f) = f := by
  obtain ⟨hs, hz, -, hac, -, hp, -, hcy⟩ := packFlags_bits f
  exact flags_ext hz hs hp hcy hac

theorem packFlags_unpackFlags (b : Byte) : packFlags (unpackFlags b) = (b &&& 0xD5) ||| 0x02 := by
  revert b
  decide

/-- Settles O17: the byte bit by bit; packing what was unpacked is evaluated for the 256 bytes. -/
theorem pswFlagByte : Obligations.PswFlagByte := by
  unfold Obligations.PswFlagByte
  refine ⟨fun f => ?_, packFlags_unpackFlags⟩
  obtain ⟨h7, h6, h5, h4, h3, h2, h1, h0⟩ := packFlags_bits f
  exact ⟨h7, h6, h5, h4, h3, h2, h1, h0, unpackFlags_packFlags f⟩

end Sys2Proof.Machine
end

section
/-! PROOFS. The data transfer instructions (spec 41_data_transfer.md): the value each one moves; the rest is read off the
frame lemmas over all shapes. -/

namespace Sys2Proof.Machine

open Sys2Proof Sys2Proof.Claims

/-! ### The two registers of a pair, and the two bytes of a word -/

section Bytes

variable (s : State)

@[simp] theorem lowByte_hl : lowByte (s.pair .hl) = s.reg .l := lowByte_joinBytes _ _

@[simp] theorem highByte_hl : highByte (s.pair .hl) = s.reg .h := highByte_joinBytes _ _

@[simp] theorem lowByte_de : lowByte (s.pair .de) = s.reg .e := lowByte_joinBytes _ _

@[simp] theorem highByte_de : highByte (s.pair .de) = s.reg .d := highByte_joinBytes _ _

@[simp] theorem lowByte_wordAt (a : Addr) : lowByte (s.wordAt a) = s.byteAt a := lowByte_joinBytes _ _

@[simp] theorem highByte_wordAt (a : Addr) : highByte (s.wordAt a) = s.byteAt (a + 1) := highByte_joinBytes _ _

@[simp] theorem reg_l_setPair_hl (v : Addr) : (s.setPair .hl v).reg .l = lowByte v := rfl

@[simp] theorem reg_h_setPair_hl (v : Addr) : (s.setPair .hl v).reg .h = highByte v := rfl

@[simp] theorem pair_advance (n : Nat) (p : Pair) : (s.advance n).pair p = s.pair p :=
  State.pair_congr _ _ (s.advance_regs n) (s.advance_sp n) p

@[simp] theorem pair_setCarry_hl (c : Bool) : (s.setCarry c).pair .hl = s.pair .hl := rfl

end Bytes

/-! ### The frame of an instruction that is no transfer -/

/-- Registers, memory, IE and ports, SP and PC after such an instruction. -/
theorem frame {s t : State} (fm : Form) (h : formEffect fm s = .next t) (hie : ieAfter fm s = s.ie := by rfl)
    (hio : ioAfter fm s = s.io := by rfl) (htr : transfers fm = false := by rfl) :
    Kept s t (regsWritten fm) (storesTo fm s) ∧ t.sp = spAfter fm s ∧
      t.pc = s.pc + BitVec.ofNat 16 fm.encode.length :=
  ⟨kept_of_formEffect h hie hio, sp_of_formEffect h, pc_of_formEffect h htr⟩

/-- The same with the flags, for an instruction that writes none. -/
theorem dataFrame {s t : State} (fm : Form) (h : formEffect fm s = .next t) (hie : ieAfter fm s = s.ie := by rfl)
    (hio : ioAfter fm s = s.io := by rfl) (hflags : flagsWritten fm = [] := by rfl)
    (htr : transfers fm = false := by rfl) :
    Kept s t (regsWritten fm) (storesTo fm s) ∧ t.flags = s.flags ∧ t.sp = spAfter fm s ∧
      t.pc = s.pc + BitVec.ofNat 16 fm.encode.length :=
  have ⟨hkept, hsp, hpc⟩ := frame fm h hie hio htr
  ⟨hkept, flags_of_formEffect h hflags, hsp, hpc⟩

/-- Settles O22: a register write is seen in its register. -/
theorem moveRegisterCopiesTheSource : Obligations.MoveRegisterCopiesTheSource := by
  unfold Obligations.MoveRegisterCopiesTheSource
  intro i dst src s hi
  exact ⟨_, exec_of_form hi rfl, by simp, dataFrame (.movRR dst src) rfl⟩

/-- Settles O23: each load writes the byte read in the state before it. -/
theorem byteLoadsReadTheAddressedByte : Obligations.ByteLoadsReadTheAddressedByte := by
  unfold Obligations.ByteLoadsReadTheAddressedByte
  refine ⟨fun i dst s hi => ?_, fun i addr s hi => ?_, fun i p s hi => ?_, fun s => ⟨rfl, rfl⟩⟩
  · exact ⟨_, exec_of_form hi rfl, by simp, dataFrame (.movRM dst) rfl⟩
  · exact ⟨_, exec_of_form hi rfl, by simp, dataFrame (.lda addr) rfl⟩
  · exact ⟨_, exec_of_form hi rfl, by simp, dataFrame (.ldax p) rfl⟩

/-- Settles O24: each store is seen at its address. -/
theorem byteStoresWriteTheAddressedByte : Obligations.ByteStoresWriteTheAddressedByte := by
  unfold Obligations.ByteStoresWriteTheAddressedByte
  refine ⟨fun i src s hi => ?_, fun i imm s hi => ?_, fun i addr s hi => ?_, fun i p s hi => ?_⟩
  · exact ⟨_, exec_of_form hi rfl, by simp, dataFrame (.movMR src) rfl⟩
  · exact ⟨_, exec_of_form hi rfl, by simp, dataFrame (.mviM imm) rfl⟩
  · exact ⟨_, exec_of_form hi rfl, by simp, dataFrame (.sta addr) rfl⟩
  · exact ⟨_, exec_of_form hi rfl, by simp, dataFrame (.stax p) rfl⟩

/-- Settles O25: SP is kept by LXI of a pair of registers. -/
theorem immediateLoadsWriteTheOperand : Obligations.ImmediateLoadsWriteTheOperand := by
  unfold Obligations.ImmediateLoadsWriteTheOperand
  refine ⟨fun i dst imm s hi => ?_, fun i p imm s hi => ?_⟩
  · exact ⟨_, exec_of_form hi rfl, by simp, dataFrame (.mviR dst imm) rfl⟩
  · obtain ⟨hkept, hflags, hsp, hpc⟩ := dataFrame (s := s) (.lxi p imm) rfl
    exact ⟨_, exec_of_form hi rfl, by simp, hkept, hflags, fun hp => hsp.trans (if_neg hp), hpc⟩

/-- Settles O26: the two bytes of a word are L and H. -/
theorem directHlTransfer : Obligations.DirectHlTransfer := by
  unfold Obligations.DirectHlTransfer
  refine ⟨fun i addr s hi => ?_, fun i addr s hi => ?_⟩
  · exact ⟨_, exec_of_form hi rfl, by simp, by simp, dataFrame (.lhld addr) rfl⟩
  · exact ⟨_, exec_of_form hi rfl, (byteAt_setWord_low s addr _).trans (lowByte_hl s),
      (byteAt_setWord_high s addr _).trans (highByte_hl s), dataFrame (.shld addr) rfl⟩

/-- Settles O27: the bytes of each pair go to the other one. -/
theorem exchangeAndSpFromHl : Obligations.ExchangeAndSpFromHl := by
  unfold Obligations.ExchangeAndSpFromHl
  refine ⟨fun s => ?_, fun s => ?_⟩
  · exact ⟨_, rfl, highByte_de s, lowByte_de s, highByte_hl s, lowByte_hl s, dataFrame .xchg rfl⟩
  · obtain ⟨hkept, hflags, hsp, hpc⟩ := dataFrame (s := s) .sphl rfl
    exact ⟨_, rfl, hsp, hkept, hflags, hpc⟩

end Sys2Proof.Machine
end

section
/-! PROOFS. The arithmetic, logical, compare and rotate instructions (spec 42_arithmetic.md, 43_logical.md). -/

namespace Sys2Proof.Machine

open Sys2Proof Sys2Proof.Claims

/-! ### Flags of a result (R30 to R33) -/

theorem zspOf_intro {v : Byte} {f : Flags} (hz : f.z = (v == 0)) (hs : f.s = v.getLsbD 7) (hp : f.p = parity8 v) :
    ZspOf v f := by
  refine ⟨by rw [hz, beq_iff_eq], by rw [hs, sign_iff], ?_⟩
  rw [hp, parity8_iff, popcount_eq_length_filter]

theorem subtractFlags_sub8 (a v : Byte) (bin : Bool) :
    SubtractFlags a v bin.toNat (sub8 a v bin).1 (sub8 a v bin).2 := by
  refine ⟨zspOf_intro rfl rfl rfl, sub8_cy a v bin, ?_⟩
  rw [sub8_ac]
  unfold acAfterSub
  cases acSub <;> simp

theorem sub8_fst (a v : Byte) : (sub8 a v false).1 = a - v := by
  apply BitVec.eq_of_toNat_eq
  have := a.isLt
  have := v.isLt
  rw [sub8_toNat, BitVec.toNat_sub, Bool.toNat_false]
  omega

/-! ### The ALU instructions, in every operand form (R170) -/

theorem source_eq_readOperand (o : Operand8) (s : State) : source o s = readOperand o s := by cases o <;> rfl

/-- What an ALU instruction writes is what its operation gives for the accumulator and the flags; the rest is kept. -/
theorem exec_of_aluOperand {i : Instr} {op : AluOp} {v : Byte} {s : State} (h : aluOperand i.form s = some (op, v)) :
    ∃ t, exec i s = .next t ∧ t.reg .a = (aluEffect op v s).reg .a ∧ t.flags = (aluEffect op v s).flags ∧
      Kept s t (if op = .cmp then [] else [.a]) [] ∧ t.sp = s.sp ∧ AdvancesByLength i s t := by
  cases hi : i.form with
  | alu op' o =>
    rw [hi] at h
    cases h
    have he := exec_of_form (s := s) hi rfl
    rw [source_eq_readOperand]
    exact ⟨_, he, State.reg_advance _ 1 .a, State.advance_flags _ 1, kept_of_formEffect (fm := .alu op o) rfl,
      sp_of_formEffect (fm := .alu op o) rfl, advancesByLength_of_exec he (by rw [hi]; rfl)⟩
  | aluImm op' imm =>
    rw [hi] at h
    cases h
    have he := exec_of_form (s := s) hi rfl
    exact ⟨_, he, State.reg_advance _ 2 .a, State.advance_flags _ 2, kept_of_formEffect (fm := .aluImm op v) rfl,
      sp_of_formEffect (fm := .aluImm op v) rfl, advancesByLength_of_exec he (by rw [hi]; rfl)⟩
  | _ => rw [hi] at h; cases h

/-- The sum and its five flags (R31). -/
theorem addition_result (a v : Byte) (cin : Bool) : (add8 a v cin).1.toNat = (a.toNat + v.toNat + cin.toNat) % 256 ∧
    ZspOf (add8 a v cin).1 (add8 a v cin).2 ∧
    ((add8 a v cin).2.cy = true ↔ 255 < a.toNat + v.toNat + cin.toNat) ∧
    ((add8 a v cin).2.ac = true ↔ 15 < a.toNat % 16 + v.toNat % 16 + cin.toNat) :=
  ⟨add8_toNat a v cin, zspOf_intro rfl rfl rfl, add8_cy a v cin, add8_ac a v cin⟩

/-- Settles O28: ADD adds with no carry in, ADC with CY. -/
theorem additionRule : Obligations.AdditionRule := by
  unfold Obligations.AdditionRule
  intro i op v s h hop
  obtain ⟨t, he, ha, hf, hkept, hsp, hpc⟩ := exec_of_aluOperand h
  refine ⟨t, he, ?_⟩
  rw [ha, hf]
  rcases hop with rfl | rfl
  · obtain ⟨hsum, hzsp, hcy, hac⟩ := addition_result (s.reg .a) v false
    exact ⟨hsum, hzsp, hcy, hac, hkept, hsp, hpc⟩
  · obtain ⟨hsum, hzsp, hcy, hac⟩ := addition_result (s.reg .a) v s.flags.cy
    exact ⟨hsum, hzsp, hcy, hac, hkept, hsp, hpc⟩

/-- Settles O29: SUB subtracts with no borrow in, SBB with CY. -/
theorem subtractionRule : Obligations.SubtractionRule := by
  unfold Obligations.SubtractionRule
  intro i op v s h hop
  obtain ⟨t, he, ha, hf, hkept, hsp, hpc⟩ := exec_of_aluOperand h
  refine ⟨t, he, ?_⟩
  rw [ha, hf]
  rcases hop with rfl | rfl
  · exact ⟨sub8_toNat _ v false, subtractFlags_sub8 _ v false, hkept, hsp, hpc⟩
  · exact ⟨sub8_toNat _ v s.flags.cy, subtractFlags_sub8 _ v s.flags.cy, hkept, hsp, hpc⟩

/-- Settles O33: the bits of the operation, and `logicFlags` of its result. -/
theorem logicalRule : Obligations.LogicalRule := by
  unfold Obligations.LogicalRule
  intro i op v s h hop
  obtain ⟨t, he, ha, hf, hkept, hsp, hpc⟩ := exec_of_aluOperand h
  refine ⟨t, he, ?_⟩
  rw [ha, hf]
  rcases hop with rfl | rfl | rfl
  · exact ⟨fun k _ => BitVec.getLsbD_and, zspOf_intro rfl rfl rfl, rfl, rfl, hkept, hsp, hpc⟩
  · exact ⟨fun k _ => BitVec.getLsbD_xor, zspOf_intro rfl rfl rfl, rfl, rfl, hkept, hsp, hpc⟩
  · exact ⟨fun k _ => BitVec.getLsbD_or, zspOf_intro rfl rfl rfl, rfl, rfl, hkept, hsp, hpc⟩

/-- Settles O34: the flags of the difference; it is 0 exactly for equal bytes. -/
theorem compareRule : Obligations.CompareRule := by
  unfold Obligations.CompareRule
  intro i v s h
  obtain ⟨t, he, -, hf, hkept, hsp, hpc⟩ := exec_of_aluOperand h
  have hsub := subtractFlags_sub8 (s.reg .a) v false
  rw [sub8_fst] at hsub
  have ⟨⟨hz, _, _⟩, hcy, _⟩ := hsub
  refine ⟨t, he, ?_⟩
  rw [hf]
  exact ⟨hsub, hz.trans sub_eq_zero, hcy, hkept, hsp, hpc⟩

/-! ### INR and DCR (R183 to R186) -/

theorem byte_succ_toNat (v : Byte) : (v + 1).toNat = (v.toNat + 1) % 256 := BitVec.toNat_add v 1

theorem byte_pred_toNat (v : Byte) : (v - 1).toNat = (v.toNat + 255) % 256 := by
  rw [BitVec.toNat_sub, Nat.add_comm]
  rfl

/-- Auxiliary-Carry after DCR, under either value of the parameter (D8). -/
theorem dcrFlags_ac_rule (v : Byte) (f : Flags) : match acSub with
    | .borrow => (dcrFlags v f).ac = true ↔ v.toNat % 16 = 0
    | .carryOfComplement => (dcrFlags v f).ac = true ↔ v.toNat % 16 ≠ 0 := by
  rw [dcrFlags_ac]
  unfold acAfterSub
  cases acSub <;> simp

/-- A register written back reads what was written, flags and PC apart. -/
theorem writeBack_reg (s : State) (r : Reg) (v : Byte) (f : Flags) (n : Nat) :
    (((writeOperand (.reg r) v s).setFlags f).advance n).reg r = v := by simp

/-- The byte at HL written back reads what was written, flags and PC apart. -/
theorem writeBack_m (s : State) (v : Byte) (f : Flags) (n : Nat) :
    (((writeOperand .m v s).setFlags f).advance n).byteAt (s.pair .hl) = v := by simp

/-- Settles O30: the operand written back, a register or the byte at HL, and the flags of the result. -/
theorem incrementAndDecrement : Obligations.IncrementAndDecrement := by
  unfold Obligations.IncrementAndDecrement
  refine ⟨fun i o s hi => ?_, fun i o s hi => ?_⟩
  · have hf : formEffect (.inr o) s = .next ((increment o s).advance 1) := rfl
    obtain ⟨hkept, hsp, hpc⟩ := frame (.inr o) hf
    have hcy := flag_of_formEffect hf .cy (by simp [flagsWritten])
    refine ⟨_, exec_of_form hi hf, ?_, ?_, ?_, hcy, hsp, hpc⟩
    · cases o with
      | reg r => exact ⟨(congrArg BitVec.toNat (writeBack_reg s r _ _ 1)).trans (byte_succ_toNat _), hkept⟩
      | m => exact ⟨(congrArg BitVec.toNat (writeBack_m s _ _ 1)).trans (byte_succ_toNat _), hkept⟩
    · rw [source_eq_readOperand]; exact zspOf_intro rfl rfl rfl
    · rw [source_eq_readOperand]; exact inrFlags_ac _ _
  · have hf : formEffect (.dcr o) s = .next ((decrement o s).advance 1) := rfl
    obtain ⟨hkept, hsp, hpc⟩ := frame (.dcr o) hf
    have hcy := flag_of_formEffect hf .cy (by simp [flagsWritten])
    refine ⟨_, exec_of_form hi hf, ?_, ?_, ?_, hcy, hsp, hpc⟩
    · cases o with
      | reg r => exact ⟨(congrArg BitVec.toNat (writeBack_reg s r _ _ 1)).trans (byte_pred_toNat _), hkept⟩
      | m => exact ⟨(congrArg BitVec.toNat (writeBack_m s _ _ 1)).trans (byte_pred_toNat _), hkept⟩
    · rw [source_eq_readOperand]; exact zspOf_intro rfl rfl rfl
    · rw [source_eq_readOperand]; exact dcrFlags_ac_rule _ _

/-! ### INX, DCX and DAD (R187 to R189) -/

theorem addr_pred_toNat (v : Addr) : (v - 1).toNat = (v.toNat + 65535) % 65536 := by
  rw [BitVec.toNat_sub, Nat.add_comm]
  rfl

/-- Settles O31: SP is kept where the pair is one of registers. -/
theorem pairIncrementAndDecrement : Obligations.PairIncrementAndDecrement := by
  unfold Obligations.PairIncrementAndDecrement
  refine ⟨fun i p s hi => ?_, fun i p s hi => ?_⟩
  · obtain ⟨hkept, hflags, hsp, hpc⟩ := dataFrame (s := s) (.inx p) rfl
    refine ⟨_, exec_of_form hi rfl, ?_, hkept, hflags, fun hp => hsp.trans (if_neg hp), hpc⟩
    rw [pair_advance, incrementPair_eq, State.pair_setPair_same]
    exact BitVec.toNat_add _ 1
  · obtain ⟨hkept, hflags, hsp, hpc⟩ := dataFrame (s := s) (.dcx p) rfl
    refine ⟨_, exec_of_form hi rfl, ?_, hkept, hflags, fun hp => hsp.trans (if_neg hp), hpc⟩
    rw [pair_advance, decrementPair_eq, State.pair_setPair_same]
    exact addr_pred_toNat _

/-- Settles O32: the sum goes to HL and its bit 16 to CY. -/
theorem dadWritesHlAndCarryOnly : Obligations.DadWritesHlAndCarryOnly := by
  unfold Obligations.DadWritesHlAndCarryOnly
  intro i p s hi
  refine ⟨_, exec_of_form hi rfl, ?_, decide_eq_true_iff, rfl, rfl, rfl, rfl, frame (.dad p) rfl⟩
  rw [pair_advance, addPair_eq, pair_setCarry_hl, State.pair_setPair_same]
  exact BitVec.toNat_ofNat _ 16

/-! ### Rotates (R212 to R215) -/

theorem getLsbD_flagBit (b : Bool) (k : Nat) : (flagBit b).getLsbD k = (decide (k = 0) && b) := by
  cases b <;> simp [flagBit]

/-- A byte shifted left with `b` put into bit 0. -/
theorem bits_shiftLeft_or (x : Byte) (b : Bool) :
    (∀ k < 7, ((x <<< 1) ||| flagBit b).getLsbD (k + 1) = x.getLsbD k) ∧
      ((x <<< 1) ||| flagBit b).getLsbD 0 = b := by
  refine ⟨fun k hk => ?_, ?_⟩
  · simp [getLsbD_flagBit]
    omega
  · rw [BitVec.getLsbD_or, getLsbD_flagBit, BitVec.getLsbD_shiftLeft]
    rfl

/-- A byte shifted right with `b` put into bit 7. -/
theorem bits_shiftRight_or (x : Byte) (b : Bool) :
    (∀ k < 7, ((x >>> 1) ||| (flagBit b <<< 7)).getLsbD k = x.getLsbD (k + 1)) ∧
      ((x >>> 1) ||| (flagBit b <<< 7)).getLsbD 7 = b := by
  refine ⟨fun k hk => ?_, ?_⟩
  · simp [getLsbD_flagBit, Nat.add_comm]
    omega
  · rw [BitVec.getLsbD_or, BitVec.getLsbD_shiftLeft, getLsbD_flagBit]
    simp

/-- Settles O35: the bits of the shifted accumulator; Carry is the bit shifted out. -/
theorem rotateRule : Obligations.RotateRule := by
  unfold Obligations.RotateRule
  refine ⟨fun s => ?_, fun s => ?_, fun s => ?_, fun s => ?_⟩
  · obtain ⟨hbits, hbit⟩ := bits_shiftLeft_or (s.reg .a) ((s.reg .a).getLsbD 7)
    exact ⟨_, rfl, hbits, hbit, rfl, frame .rlc rfl⟩
  · obtain ⟨hbits, hbit⟩ := bits_shiftRight_or (s.reg .a) ((s.reg .a).getLsbD 0)
    exact ⟨_, rfl, hbits, hbit, rfl, frame .rrc rfl⟩
  · obtain ⟨hbits, hbit⟩ := bits_shiftLeft_or (s.reg .a) s.flags.cy
    exact ⟨_, rfl, hbits, hbit, rfl, frame .ral rfl⟩
  · obtain ⟨hbits, hbit⟩ := bits_shiftRight_or (s.reg .a) s.flags.cy
    exact ⟨_, rfl, hbits, hbit, rfl, frame .rar rfl⟩

/-- RAL as a rotation of the nine bits of Carry and the accumulator. -/
def ralBits (x : Byte × Bool) : Byte × Bool := ((x.1 <<< 1) ||| flagBit x.2, x.1.getLsbD 7)

/-- `n` times RAL rotates those nine bits `n` times and leaves the other four flags. -/
theorem ralTimes_eq (n : Nat) (s : State) : ∃ t, ralTimes n s = some t ∧
    t.reg .a = (ralBits^[n] (s.reg .a, s.flags.cy)).1 ∧
    t.flags = { s.flags with cy := (ralBits^[n] (s.reg .a, s.flags.cy)).2 } := by
  induction n generalizing s with
  | zero => exact ⟨s, rfl, rfl, rfl⟩
  | succ n ih => exact ih ((rotateLeftCarry s).advance 1)

theorem ralBits_nine (a : Byte) (cy : Bool) : ralBits^[9] (a, cy) = (a, cy) := by
  revert a cy
  decide +kernel

/-- Settles O36: nine rotations of nine bits, evaluated for each of the 512 values. -/
theorem nineRalRestoreAccumulatorAndCarry : Obligations.NineRalRestoreAccumulatorAndCarry := by
  unfold Obligations.NineRalRestoreAccumulatorAndCarry
  intro s
  obtain ⟨t, ht, ha, hf⟩ := ralTimes_eq 9 s
  rw [ralBits_nine] at ha hf
  exact ⟨t, ht, ha, hf⟩

/-- Settles O37: the accumulator complemented, and the two writes of Carry. -/
theorem complementAndCarryInstructions : Obligations.ComplementAndCarryInstructions := by
  unfold Obligations.ComplementAndCarryInstructions
  refine ⟨fun s => ?_, fun s => ?_, fun s => ?_⟩
  · exact ⟨_, rfl, BitVec.toNat_not, dataFrame .cma rfl⟩
  · exact ⟨_, rfl, rfl, frame .stc rfl⟩
  · exact ⟨_, rfl, rfl, frame .cmc rfl⟩

end Sys2Proof.Machine
end

section
/-! PROOFS. The branch, stack, input/output and control instructions and the return from an interrupt (spec
44_branch.md, 45_stack.md, 46_io_control.md, 60_exceptions.md). -/

namespace Sys2Proof.Machine

open Sys2Proof Sys2Proof.Claims

/-! ### Branches (R230 to R237) -/

/-- Settles O38: the three ways to set PC. -/
theorem jumpsSetPcOnly : Obligations.JumpsSetPcOnly := by
  unfold Obligations.JumpsSetPcOnly
  refine ⟨fun i target s hi => ?_, fun s => ?_, fun i cnd target s hi => ?_⟩
  · have hf : formEffect (.jmp target) s = .next (jumpTo target s) := rfl
    exact ⟨_, exec_of_form hi hf, rfl, kept_of_formEffect hf, rfl, rfl⟩
  · have hf : formEffect .pchl s = .next (jumpHL s) := rfl
    exact ⟨_, rfl, rfl, kept_of_formEffect hf, rfl, rfl⟩
  · have hf : formEffect (.jcc cnd target) s = .next (jumpIf cnd target s) := rfl
    exact ⟨_, exec_of_form hi hf, by rw [jumpIf_eq, State.setPc_pc], kept_of_formEffect hf,
      flags_of_formEffect hf rfl, sp_of_formEffect hf⟩

/-- Settles O39: each call pushes the address after it, where it is taken. -/
theorem callsPushTheReturnAddress : Obligations.CallsPushTheReturnAddress := by
  unfold Obligations.CallsPushTheReturnAddress
  refine ⟨fun i target s hi => ?_, fun i cnd target s hi => ?_, fun i n s hi => ?_⟩
  · have hf : formEffect (.call target) s = .next (callTo target s) := rfl
    exact ⟨_, exec_of_form hi hf, rfl, s.top16_push16 _, rfl, kept_of_formEffect hf, rfl⟩
  · have hf : formEffect (.ccc cnd target) s = .next (callIf cnd target s) := rfl
    have hkept := kept_of_formEffect hf
    refine ⟨_, exec_of_form hi hf, flags_of_formEffect hf rfl, fun hc => ?_, fun hc => ?_⟩
    · rw [storesTo, if_pos hc, callIf_eq, if_pos hc] at hkept
      rw [callIf_eq, if_pos hc]
      exact ⟨rfl, s.top16_push16 _, rfl, hkept⟩
    · have hc : ¬ condHolds cnd s.flags = true := by simp [hc]
      rw [storesTo, if_neg hc, callIf_eq, if_neg hc] at hkept
      rw [callIf_eq, if_neg hc]
      exact ⟨rfl, rfl, hkept⟩
  · have hf : formEffect (.rst n) s = .next (restart n s) := rfl
    exact ⟨_, exec_of_form hi hf, vectorAddr_toNat n, s.top16_push16 _, rfl, kept_of_formEffect hf, rfl⟩

/-- Settles O40: PC is the word on top of the stack where the return is taken. -/
theorem returnsPopThePc : Obligations.ReturnsPopThePc := by
  unfold Obligations.ReturnsPopThePc
  refine ⟨fun s => ?_, fun i cnd s hi => ?_⟩
  · have hf : formEffect .ret s = .next (returnOp s) := rfl
    exact ⟨_, rfl, top16_toNat s, rfl, kept_of_formEffect hf, rfl⟩
  · have hf : formEffect (.rcc cnd) s = .next (returnIf cnd s) := rfl
    exact ⟨_, exec_of_form hi hf, apply_ite State.pc _ _ _, sp_of_formEffect hf, kept_of_formEffect hf,
      flags_of_formEffect hf rfl⟩

/-- Settles O41: the return pops what the call pushed. -/
theorem returnAfterCallResumes : Obligations.ReturnAfterCallResumes := by
  unfold Obligations.ReturnAfterCallResumes
  intro s target
  exact ⟨callTo target s, returnOp (callTo target s), rfl, rfl, rfl, s.top16_push16 (s.pc + 3),
    pop16_push16_sp s (s.pc + 3), by simp, rfl⟩

/-! ### The stack (R250 to R254) -/

/-- Settles O42: the two bytes a push stores; those of PSW are A and the flag byte. -/
theorem pushRule : Obligations.PushRule := by
  unfold Obligations.PushRule
  refine ⟨fun i p s hi => ?_, fun s => ?_⟩
  · have hf : formEffect (.push p) s = .next ((pushPair p s).advance 1) := rfl
    refine ⟨_, exec_of_form hi hf, s.top16_push16 _, ?_, ?_, rfl, kept_of_formEffect hf, rfl, rfl⟩
    · rw [State.byteAt_advance, pushPair_eq, byteAt_push16_high, highByte_toNat]
    · rw [State.byteAt_advance, pushPair_eq, byteAt_push16_low, lowByte_toNat]
  · have hf : formEffect .pushPsw s = .next ((pushStatus s).advance 1) := rfl
    exact ⟨_, rfl, (byteAt_push16_high s s.psw).trans (highByte_joinBytes _ _),
      (byteAt_push16_low s s.psw).trans (lowByte_joinBytes _ _), rfl, kept_of_formEffect hf, rfl, rfl⟩

/-- Settles O43: the pair, or A and the flags, take the two bytes on top of the stack. -/
theorem popRule : Obligations.PopRule := by
  unfold Obligations.PopRule
  refine ⟨fun i p s hi => ?_, fun s => ?_⟩
  · obtain ⟨hkept, hflags, hsp, hpc⟩ := dataFrame (s := s) (.pop p) rfl
    refine ⟨_, exec_of_form hi rfl, ?_, hsp, hkept, hflags, hpc⟩
    rw [pair_advance, popPair_eq, State.pair_setPair_same, top16_toNat]
  · have hf : formEffect .popPsw s = .next ((popStatus s).advance 1) := rfl
    have hlow : lowByte s.top16 = s.byteAt s.sp := lowByte_wordAt s s.sp
    have hflags : ((popStatus s).advance 1).flags = unpackFlags (s.byteAt s.sp) := congrArg unpackFlags hlow
    refine ⟨_, rfl, highByte_wordAt s s.sp, ?_⟩
    rw [hflags]
    exact ⟨rfl, rfl, rfl, rfl, rfl, rfl, kept_of_formEffect hf, rfl⟩

/-- What XTHL leaves in L and H and at SP and SP + 1. -/
theorem bytes_of_xthl {s t : State} (h : formEffect .xthl s = .next t) : t.reg .l = s.byteAt s.sp ∧
    t.reg .h = s.byteAt (s.sp + 1) ∧ t.byteAt s.sp = s.reg .l ∧ t.byteAt (s.sp + 1) = s.reg .h := by
  cases h
  rw [State.byteAt_advance, State.byteAt_advance, exchangeStack_eq, State.byteAt_setPair, State.byteAt_setPair,
    byteAt_setWord_low, byteAt_setWord_high]
  exact ⟨lowByte_wordAt s s.sp, highByte_wordAt s s.sp, lowByte_hl s, highByte_hl s⟩

/-- Two exchanges in a row restore H and L and the two bytes; nothing else was touched. -/
theorem restored_of_xthl_twice {s t u : State} (ht : formEffect .xthl s = .next t)
    (hu : formEffect .xthl t = .next u) : (∀ r, u.reg r = s.reg r) ∧ ∀ a, u.byteAt a = s.byteAt a := by
  have hsp : t.sp = s.sp := sp_of_formEffect ht
  obtain ⟨hregs, hbytes, -⟩ := kept_of_formEffect ht
  obtain ⟨hregs', hbytes', -⟩ := kept_of_formEffect hu
  obtain ⟨hl, hh, hlow, hhigh⟩ := bytes_of_xthl ht
  obtain ⟨hl', hh', hlow', hhigh'⟩ := bytes_of_xthl hu
  rw [hsp] at hl' hh' hlow' hhigh'
  refine ⟨fun r => ?_, fun a => ?_⟩
  · by_cases hr : r ∈ regsOf .hl
    · rcases List.mem_pair.mp hr with rfl | rfl
      · exact hh'.trans hhigh
      · exact hl'.trans hlow
    · exact (hregs' r hr).trans (hregs r hr)
  · by_cases ha : a ∈ [s.sp, s.sp + 1]
    · rcases List.mem_pair.mp ha with rfl | rfl
      · exact hlow'.trans hl
      · exact hhigh'.trans hh
    · exact (hbytes' a (by rw [storesTo, hsp]; exact ha)).trans (hbytes a ha)

/-- Settles O44: one exchange byte by byte, and two. -/
theorem exchangeWithTopOfStack : Obligations.ExchangeWithTopOfStack := by
  unfold Obligations.ExchangeWithTopOfStack
  intro s
  have hf : formEffect .xthl s = .next ((exchangeStack s).advance 1) := rfl
  obtain ⟨hl, hh, hlow, hhigh⟩ := bytes_of_xthl hf
  exact ⟨_, _, rfl, hl, hh, hlow, hhigh, kept_of_formEffect hf, rfl, rfl, rfl, rfl, restored_of_xthl_twice hf rfl⟩

/-! ### Ports and control (R267 to R272) -/

/-- Settles O45: the answer of the environment, whatever it is, goes to A and into the record. -/
theorem inputAndOutput : Obligations.InputAndOutput := by
  unfold Obligations.InputAndOutput
  refine ⟨fun i port s hi => ?_, fun i port s hi => ?_⟩
  · have hf : formEffect (.inPort port) s = .next ((input port s).advance 2) := rfl
    exact ⟨_, exec_of_form hi hf, rfl, rfl, fun r hr => reg_of_formEffect hf r (mt List.mem_singleton.mp hr),
      fun _ => rfl, rfl, rfl, rfl, rfl⟩
  · exact ⟨_, exec_of_form hi rfl, rfl, by simp, fun _ => rfl, rfl, rfl, rfl, rfl⟩

/-- Settles O46: the four meanings, written out. -/
theorem controlInstructions : Obligations.ControlInstructions := by
  unfold Obligations.ControlInstructions
  exact ⟨fun _ => rfl, fun _ => rfl, fun _ => rfl, fun _ => rfl⟩

/-! ### The return from an interrupt (R286, R290) -/

/-- Settles O55: the entry clears IE, so a second request finds it 0; the RET pops the PC the entry pushed. -/
theorem returnFromInterruptResumes : Obligations.ReturnFromInterruptResumes := by
  unfold Obligations.ReturnFromInterruptResumes
  intro n m s h
  have hentry := raise_of_enabled n s h
  have hie : (raise n s).ie = false := by rw [hentry]
  refine ⟨raise_of_disabled m _ hie, returnOp (raise n s), rfl, top16_raise n s h, ?_⟩
  rw [hentry]
  exact ⟨pop16_push16_sp s s.pc, rfl, rfl, rfl, fun a ha => byteAt_push16_of_not_mem s s.pc a ha⟩

end Sys2Proof.Machine
end
